-- ==== Sys2Proof/Word.lean ====
section
/-! DEFINITION. The widths the manual gives its quantities (R1, R25, R113, R147, R173), and the fixed-size table. -/

namespace Sys2Proof

/-- One word of the local bus (R172). -/
abbrev Word := BitVec 16

/-- A 32-bit value of one base (R25). -/
abbrev Stamp := BitVec 32

/-- A term or a wait limit, 0 to 16,777,215 (R173). -/
abbrev Ticks := BitVec 24

/-- A set of channels: bit n stands for channel n (R173). -/
abbrev ChannelSet := BitVec 16

/-- A set of masters: bit m stands for master m (R173). -/
abbrev MasterSet := BitVec 8

/-- A set of notice kinds, in the order of the notice kinds word (R147, section 11.3). -/
abbrev KindSet := BitVec 6

/-- A table of n records, given by its record at each number. -/
def tabulate {n : Nat} {α : Type} (f : Fin n → α) : Vector α n :=
  ⟨⟨List.ofFn f⟩, by simp⟩

@[simp] theorem tabulate_get {n : Nat} {α : Type} (f : Fin n → α) (i : Nat) (h : i < n) :
    (tabulate f)[i] = f ⟨i, h⟩ := by
  simp [tabulate]

end Sys2Proof
end

