-- ==== Sys2Proof/Syntax.lean ====
section
/-! DEFINITION. The commands and events of the BL6416: one constructor per row of spec/opcode_table.json.

A command row is a write of that command's word to the command word of window `w` of master `m`; its arguments are the
window's argument words as they stand (R161; log 1). An event row is the event, with the pin, channel or base it names. -/

namespace Sys2Proof

/-- One of the two time bases (R27, R29). -/
inductive Base where
  | a
  | b
  deriving DecidableEq, Repr

/-- Which part of an edge's life on a renew line a row stands for (R80: an edge arrives, and is then taken; log 10). -/
inductive EdgePhase where
  /-- The edge arrives at the pin; if detected, its stamps are captured. -/
  | arrives
  /-- The oldest captured edge of the line is taken. -/
  | isTaken
  /-- The edge arrives and is taken at the same instant. -/
  | arrivesAndIsTaken
  deriving DecidableEq, Repr

/-- The rows of the table, in its order. -/
inductive Instr where
  | claim (m : Fin 8) (w : Fin 2)
  | renew (m : Fin 8) (w : Fin 2)
  | setTerm (m : Fin 8) (w : Fin 2)
  | setOptions (m : Fin 8) (w : Fin 2)
  | addChannels (m : Fin 8) (w : Fin 2)
  | dropChannels (m : Fin 8) (w : Fin 2)
  | release (m : Fin 8) (w : Fin 2)
  | retire (m : Fin 8) (w : Fin 2)
  | purge (m : Fin 8) (w : Fin 2)
  | revoke (m : Fin 8) (w : Fin 2)
  | offer (m : Fin 8) (w : Fin 2)
  | withdraw (m : Fin 8) (w : Fin 2)
  | accept (m : Fin 8) (w : Fin 2)
  | decline (m : Fin 8) (w : Fin 2)
  | listOffers (m : Fin 8) (w : Fin 2)
  | queryLease (m : Fin 8) (w : Fin 2)
  | findChannel (m : Fin 8) (w : Fin 2)
  | queryClaims (m : Fin 8) (w : Fin 2)
  | resetTable (m : Fin 8) (w : Fin 2)
  | setMode (m : Fin 8) (w : Fin 2)
  | setLevel (m : Fin 8) (w : Fin 2)
  | armSingle (m : Fin 8) (w : Fin 2)
  | stagePeriodic (m : Fin 8) (w : Fin 2)
  | restartPeriodic (m : Fin 8) (w : Fin 2)
  | force (m : Fin 8) (w : Fin 2)
  | nextNotice (m : Fin 8) (w : Fin 2)
  | ackNotices (m : Fin 8) (w : Fin 2)
  | ackDevice (m : Fin 8) (w : Fin 2)
  | readTime (m : Fin 8) (w : Fin 2)
  | setPrescaler (m : Fin 8) (w : Fin 2)
  | setBaseB (m : Fin 8) (w : Fin 2)
  | startBaseB (m : Fin 8) (w : Fin 2)
  | stopBaseB (m : Fin 8) (w : Fin 2)
  | configLine (m : Fin 8) (w : Fin 2)
  | queryLine (m : Fin 8) (w : Fin 2)
  | configChannel (m : Fin 8) (w : Fin 2)
  | configMasterSupervisor (m : Fin 8) (w : Fin 2)
  | configMasterSelf (m : Fin 8) (w : Fin 2)
  | disableMaster (m : Fin 8) (w : Fin 2)
  /-- A write of `word`, which names no command, to a command word. -/
  | unknownCommand (m : Fin 8) (w : Fin 2) (word : Word)
  /-- A write of `word` to the command word of a BUSY window. -/
  | commandCollision (m : Fin 8) (w : Fin 2) (word : Word)
  | abort (m : Fin 8) (w : Fin 2)
  | resultTaken (m : Fin 8) (w : Fin 2)
  | windowReset (m : Fin 8) (w : Fin 2)
  | argumentWordWrite (m : Fin 8) (w : Fin 2) (index : Fin 8) (value : Word)
  /-- A write of `value` by master `m` to a bus word address that holds no writable word, or of no named control to a control word. -/
  | discardedWrite (m : Fin 8) (address : BitVec 6) (value : Word)
  /-- RESET_N becomes asserted or deasserted. -/
  | resetN (asserted : Bool)
  /-- The FREEZE input becomes asserted or deasserted. -/
  | freeze (asserted : Bool)
  | trefEdge
  | bTick
  | aTick
  | expiryEvent (base : Base)
  | stallEvent
  | waitDeadline
  | comparatorMatch (c : Fin 16)
  | widthEdge (c : Fin 16)
  | boundary (c : Fin 16)
  | drainEnd (c : Fin 16)
  | renewLineEdge (line : Fin 8) (rising : Bool) (phase : EdgePhase)
  | systemClockPeriod
  deriving DecidableEq, Repr

end Sys2Proof
end

