-- ==== Sys2Proof/Decode.lean ====
section
/-! DEFINITION. The rows that spec/opcode_table.json gives bits: none (every row's "fields" are empty; log 21). -/

namespace Sys2Proof

/-- The command a word spells by the table's bits. The table gives no row any bits, so no word spells one (log 21). -/
def decodeTableWord (_nbits _w : Nat) : Option Instr := none

end Sys2Proof
end

