-- ==== Sys2Proof/Config.lean ====
section
/-! DEFINITION. What the part fixes once: its capacities, and the one choice the manual leaves open. -/

namespace Sys2Proof.Config

/-- The grant queue holds at most 12 claims (R47). -/
def queueCapacity : Nat := 12

/-- An offer list holds at most 4 entries (R102). -/
def offerCapacity : Nat := 4

/-- DESIGN CHOICE, safe (log 4): which of several parts of one A-tick that are still open is taken next. R58 says
"in either order" and R129 gives no order; the argument is the state's count of the choices made so far. No value of it is known. -/
opaque tickOrder : Nat → Nat

end Sys2Proof.Config
end

