-- ==== Sys2Proof/Machine/State.lean ====
section
/-! DEFINITION. The state of the BL6416 as plain data, its value right after reset, and the plain reads and updates of its records.

Every field is named in INVENTORY.md under '## State' with the rule that gives it. -/

namespace Sys2Proof.Machine

/-! ### Lease Table -/

/-- R4. -/
inductive LeaseState where
  | free
  | held
  | grace
  | lapsed
  deriving DecidableEq, Repr

/-- What the channels do while the lease is in grace (R1, R41). -/
inductive GraceAction where
  | hold
  | park
  deriving DecidableEq, Repr

/-- Why a lease lapsed (R92). -/
inductive EndReason where
  | expired
  | revoked
  | baseStalled
  deriving DecidableEq, Repr

/-- The kinds of lease notice (R147). -/
inductive NoticeKind where
  | grace
  | lapsed
  | boundary
  | singleDone
  | transferred
  | offerDeclined
  deriving DecidableEq, Repr

/-- A lease record (R1), with the two items the Notice Unit keeps for it (R147). -/
structure Lease where
  state : LeaseState
  generation : BitVec 8
  holder : Option (Fin 8)
  channels : ChannelSet
  base : Base
  term : Ticks
  stagedTerm : Option Ticks
  grace : Word
  graceAction : GraceAction
  expiry : Stamp
  line : Option (Fin 8)
  lastRenewal : Stamp
  renewals : Word
  urgency : BitVec 3
  boundaryNotices : Bool
  endReason : Option EndReason
  offerTarget : Option (Fin 8)
  notices : KindSet
  noticeCount : Word
  deriving DecidableEq, Repr

/-- A FREE record: its generation, and every other field at its rest value (R2, R3). -/
def Lease.rest (generation : BitVec 8) : Lease where
  state := .free
  generation := generation
  holder := none
  channels := 0
  base := .a
  term := 0
  stagedTerm := none
  grace := 0
  graceAction := .hold
  expiry := 0
  line := none
  lastRenewal := 0
  renewals := 0
  urgency := 0
  boundaryNotices := false
  endReason := none
  offerTarget := none
  notices := 0
  noticeCount := 0

/-! ### Timekeeping Unit -/

/-- Base A (R27). `divisorInUse` is the divisor the advance now gathering completes on (R28; log 7). -/
structure BaseA where
  counter : Stamp
  divisor : Word
  divisorInUse : Word
  count : Nat
  honourFreeze : Bool
  deriving DecidableEq, Repr

/-- R29. -/
inductive BaseBState where
  | stopped
  | running
  | stalled
  deriving DecidableEq, Repr

/-- Base B (R29). `divisorInUse` is the divisor the advance now gathering completes on (R32; log 7). -/
structure BaseB where
  state : BaseBState
  counter : Stamp
  divisor : Word
  divisorInUse : Word
  edgeCount : Nat
  stallLimit : Word
  stallWatch : Word
  honourFreeze : Bool
  deriving DecidableEq, Repr

/-! ### Grant Queue -/

/-- A claim, as its CLAIM gave it (R47). -/
structure Claim where
  master : Fin 8
  window : Fin 2
  channels : ChannelSet
  base : Base
  term : Ticks
  grace : Word
  graceAction : GraceAction
  urgency : BitVec 3
  boundaryNotices : Bool
  line : Option (Fin 8)
  deadline : Option Stamp
  arrival : Word
  deriving DecidableEq, Repr

/-! ### Output Channels and Waveform Generators -/

/-- R115. -/
inductive ChannelState where
  | idle
  | active
  | parked
  | draining
  deriving DecidableEq, Repr

/-- R113. -/
inductive Polarity where
  | normal
  | inverted
  deriving DecidableEq, Repr

/-- R113. -/
inductive SafeLevel where
  | low
  | high
  | openLevel
  deriving DecidableEq, Repr

/-- R113. -/
inductive Drive where
  | pushPull
  | openDrain
  deriving DecidableEq, Repr

/-- R118. -/
inductive ReleaseStyle where
  | immediate
  | atBoundary
  deriving DecidableEq, Repr

/-- R129. -/
inductive Mode where
  | level
  | single
  | periodic
  deriving DecidableEq, Repr

/-- A channel's configuration (R113). -/
structure ChannelConfig where
  polarity : Polarity
  safeLevel : SafeLevel
  drive : Drive
  releaseStyle : ReleaseStyle
  permitted : MasterSet
  deriving DecidableEq, Repr

/-- A channel's waveform fields (R113). A comparator is `none` while disarmed. -/
structure Waveform where
  mode : Mode
  flipFlop : Bool
  level : Bool
  period : Word
  width : Word
  staged : Option (Word × Word)
  position : Word
  rise : Option Stamp
  fall : Option Stamp
  deriving DecidableEq, Repr

/-- The rest values of the waveform fields (R114, R120). -/
def Waveform.rest : Waveform where
  mode := .level
  flipFlop := false
  level := false
  period := 0
  width := 0
  staged := none
  position := 0
  rise := none
  fall := none

/-- A channel record (R113). -/
structure Channel where
  state : ChannelState
  governing : Option (Fin 64)
  config : ChannelConfig
  wave : Waveform
  deriving DecidableEq, Repr

/-! ### Renew Lines -/

/-- R79. -/
inductive EdgeSetting where
  | off
  | rising
  | falling
  | both
  deriving DecidableEq, Repr

/-- The values a line captures at the arrival of a detected edge (R80, R178). -/
structure Capture where
  stampA : Stamp
  stampB : Stamp
  deriving DecidableEq, Repr

/-- A renew line's record (R79), the detected edges that have arrived and are not yet taken (R80; log 10), and the
level of its input pin (R84; log 11). -/
structure Line where
  edge : EdgeSetting
  bound : Option (Fin 64)
  lastEdge : Stamp
  captured : List Capture
  level : Bool
  deriving DecidableEq, Repr

/-! ### Master Table -/

/-- R168. -/
inductive Role where
  | supervisor
  | user
  deriving DecidableEq, Repr

/-- A master record (R168). -/
structure Master where
  enabled : Bool
  role : Role
  quota : Nat
  count : Nat
  completionUrgency : BitVec 3
  interruptEnable : Bool
  deriving DecidableEq, Repr

/-! ### Command Port -/

/-- R159. -/
inductive WindowState where
  | idle
  | busy
  | done
  deriving DecidableEq, Repr

/-- The result codes (R174). -/
inductive ResultCode where
  | ok
  | unknownCommand
  | badArgument
  | masterDisabled
  | notPermitted
  | staleHandle
  | notHolder
  | leaseLapsed
  | wrongState
  | channelBusy
  | channelReserved
  | ownConflict
  | tableFull
  | quota
  | queueFull
  | baseUnavailable
  | lineBusy
  | timedOut
  | aborted
  | wrongMode
  | modePath
  | noOffer
  | offerListFull
  | staleNotice
  deriving DecidableEq, Repr

/-- A window record (R158), its completion-pending flag (R149), and the two sets a RELEASE that waits for its drain
will report (R86, R88; log 13). -/
structure Window where
  state : WindowState
  args : Vector Word 8
  command : Word
  code : Option ResultCode
  words : Vector Word 12
  collision : Bool
  abortNotTaken : Bool
  drainSet : ChannelSet
  completionPending : Bool
  released : ChannelSet
  drained : ChannelSet
  deriving DecidableEq, Repr

/-- A window's power-on values (R158), which a window reset restores (R166). -/
def Window.rest : Window where
  state := .idle
  args := Vector.replicate 8 0
  command := 0
  code := none
  words := Vector.replicate 12 0
  collision := false
  abortNotTaken := false
  drainSet := 0
  completionPending := false
  released := 0
  drained := 0

/-- R46. -/
inductive DeviceNotice where
  | none
  | baseBStalled
  deriving DecidableEq, Repr

/-! ### The whole part -/

/-- The state of the part. Window `w` of master `m` is at index `2 * m + w` of `windows`. -/
structure State where
  windows : Vector Window 16
  masters : Vector Master 8
  leases : Vector Lease 64
  offers : Vector (List (Fin 64)) 8
  claims : List Claim
  arrivals : Word
  baseA : BaseA
  baseB : BaseB
  expiryA : List (Fin 64)
  expiryB : List (Fin 64)
  channels : Vector Channel 16
  lines : Vector Line 8
  deviceNotice : DeviceNotice
  freeze : Bool
  resetAsserted : Bool
  freeCount : Nat
  pending : List Instr
  deriving DecidableEq, Repr

/-- Nothing stops the part: no rule of the manual describes a fault, so there is no constructor. -/
inductive Fault where
  deriving DecidableEq, Repr

/-- Why the model declines a command. -/
inductive Refusal where
  /-- Raised by `exec` for a row that has no meaning yet; safe. Every row has its meaning, so no arm raises it. -/
  | notModelled (mnemonic : String)
  deriving DecidableEq, Repr

/-! ### Power-on values -/

/-- R114. -/
def Channel.powerOn : Channel where
  state := .idle
  governing := none
  config := { polarity := .normal, safeLevel := .openLevel, drive := .pushPull, releaseStyle := .immediate, permitted := 0xFF }
  wave := .rest

/-- R168: master 0 is the enabled supervisor, masters 1 to 7 are disabled users. -/
def Master.powerOn (m : Fin 8) : Master where
  enabled := m == 0
  role := if m = 0 then .supervisor else .user
  quota := 8
  count := 0
  completionUrgency := 1
  interruptEnable := false

/-- R79; `level` is the pin's, which reset does not drive. -/
def Line.powerOn (level : Bool) : Line where
  edge := .off
  bound := none
  lastEdge := 0
  captured := []
  level := level

/-- R27. -/
def BaseA.powerOn : BaseA where
  counter := 0
  divisor := 1
  divisorInUse := 1
  count := 0
  honourFreeze := true

/-- R29. -/
def BaseB.powerOn : BaseB where
  state := .stopped
  counter := 0
  divisor := 1
  divisorInUse := 1
  edgeCount := 0
  stallLimit := 0
  stallWatch := 0
  honourFreeze := true

/-- The part right after reset: every block at its power-on values (R177), RESET_N deasserted. DESIGN CHOICE (log 11): the
FREEZE input deasserted and every renew line low; (log 22): `freeCount` 0. Nothing is pending. -/
def State.reset : State where
  windows := Vector.replicate 16 .rest
  masters := tabulate Master.powerOn
  leases := Vector.replicate 64 (.rest 0)
  offers := Vector.replicate 8 []
  claims := []
  arrivals := 0
  baseA := .powerOn
  baseB := .powerOn
  expiryA := []
  expiryB := []
  channels := Vector.replicate 16 .powerOn
  lines := Vector.replicate 8 (.powerOn false)
  deviceNotice := .none
  freeze := false
  resetAsserted := false
  freeCount := 0
  pending := []

/-! ### Reads and updates of one record -/

/-- The place of window `w` of master `m` in `windows`. -/
def windowIndex (m : Fin 8) (w : Fin 2) : Fin 16 := ⟨2 * m.val + w.val, by omega⟩

/-- Window `w` of master `m`. -/
def State.window (s : State) (m : Fin 8) (w : Fin 2) : Window := s.windows[windowIndex m w]

/-- The record of master `m`. -/
def State.master (s : State) (m : Fin 8) : Master := s.masters[m]

/-- Lease record `n`. -/
def State.lease (s : State) (n : Fin 64) : Lease := s.leases[n]

/-- The offer list of master `m`. -/
def State.offerList (s : State) (m : Fin 8) : List (Fin 64) := s.offers[m]

/-- The record of channel `c`. -/
def State.channel (s : State) (c : Fin 16) : Channel := s.channels[c]

/-- The record of renew line `k`. -/
def State.line (s : State) (k : Fin 8) : Line := s.lines[k]

/-- The expiry queue of a base. -/
def State.expiryQueue (s : State) : Base → List (Fin 64)
  | .a => s.expiryA
  | .b => s.expiryB

/-- Window `w` of master `m` becomes `x`. -/
def State.setWindow (s : State) (m : Fin 8) (w : Fin 2) (x : Window) : State :=
  { s with windows := s.windows.set (windowIndex m w) x }

/-- The record of master `m` becomes `x`. -/
def State.setMaster (s : State) (m : Fin 8) (x : Master) : State :=
  { s with masters := s.masters.set m x }

/-- Lease record `n` becomes `x`. -/
def State.setLease (s : State) (n : Fin 64) (x : Lease) : State :=
  { s with leases := s.leases.set n x }

/-- The offer list of master `m` becomes `x`. -/
def State.setOfferList (s : State) (m : Fin 8) (x : List (Fin 64)) : State :=
  { s with offers := s.offers.set m x }

/-- The record of channel `c` becomes `x`. -/
def State.setChannel (s : State) (c : Fin 16) (x : Channel) : State :=
  { s with channels := s.channels.set c x }

/-- The record of renew line `k` becomes `x`. -/
def State.setLine (s : State) (k : Fin 8) (x : Line) : State :=
  { s with lines := s.lines.set k x }

/-- The expiry queue of a base becomes `q`. -/
def State.setExpiryQueue (s : State) : Base → List (Fin 64) → State
  | .a, q => { s with expiryA := q }
  | .b, q => { s with expiryB := q }

/-- Every window takes the value `f` gives for its master and number. -/
def State.mapWindows (s : State) (f : Fin 8 → Fin 2 → Window → Window) : State :=
  { s with windows := tabulate (fun i => f ⟨i.val / 2, by omega⟩ ⟨i.val % 2, by omega⟩ s.windows[i]) }

/-- Every channel record takes the value `f` gives for its number. -/
def State.mapChannels (s : State) (f : Fin 16 → Channel → Channel) : State :=
  { s with channels := tabulate (fun c => f c s.channels[c]) }

end Sys2Proof.Machine
end

