-- ==== Sys2Proof/Machine/Operands.lean ====
section
/-! DEFINITION. How arguments and results are packed into window words (R172 to R176): argument parsing, the codes of
enumerated values, and the packing of results. -/

namespace Sys2Proof.Machine

/-- A window's argument words. -/
abbrev Args := Vector Word 8

/-- A word that is 1 or 0. -/
def bitWord (b : Bool) : Word := if b then 1 else 0

/-- The number a word holds, placed in one word. -/
def natWord (n : Nat) : Word := BitVec.ofNat 16 n

/-! ### Arguments -/

/-- The lease number of a handle word, bits 5:0 (R173). -/
def handleLease (h : Word) : Fin 64 := ⟨h.toNat % 64, by omega⟩

/-- The generation of a handle word, bits 13:6 (R173). -/
def handleGeneration (h : Word) : BitVec 8 := h.extractLsb' 6 8

/-- A 32-bit value in two words, the low half first (R173). -/
def stampOfWords (low high : Word) : Stamp := high ++ low

/-- A term or wait limit in two words; bits 15:8 of the second are not examined (R173). -/
def ticksOfWords (low high : Word) : Ticks := high.extractLsb' 0 8 ++ low

/-- The permitted-masters set of a word; bits 15:8 are not examined (R173). -/
def mastersOfWord (w : Word) : MasterSet := w.extractLsb' 0 8

/-- The channel number of a word that is at most 15. -/
def channelOfWord (w : Word) : Fin 16 := ⟨w.toNat % 16, by omega⟩

/-- The master or line number of a word that is at most 7. -/
def eightOfWord (w : Word) : Fin 8 := ⟨w.toNat % 8, by omega⟩

/-- The urgency of a word that is at most 7. -/
def urgencyOfWord (w : Word) : BitVec 3 := w.extractLsb' 0 3

/-! Enumerated arguments (section 11.3): `none` where the word is not one of the codes. -/

/-- OFF 0, ON 1 (boundary notices, honour-freeze, interrupt enable); levels and forced values 0, 1 (R134, R142). -/
def onOffOfWord (w : Word) : Option Bool :=
  if w = 0 then some false else if w = 1 then some true else none

/-- Base: A 0, B 1. -/
def baseOfCode (w : Word) : Option Base :=
  if w = 0 then some .a else if w = 1 then some .b else none

/-- Grace action: HOLD 0, PARK 1. -/
def graceActionOfWord (w : Word) : Option GraceAction :=
  if w = 0 then some .hold else if w = 1 then some .park else none

/-- Mode: LEVEL 0, SINGLE 1, PERIODIC 2. -/
def modeOfWord (w : Word) : Option Mode :=
  if w = 0 then some .level else if w = 1 then some .single else if w = 2 then some .periodic else none

/-- Polarity: NORMAL 0, INVERTED 1. -/
def polarityOfWord (w : Word) : Option Polarity :=
  if w = 0 then some .normal else if w = 1 then some .inverted else none

/-- Safe level: LOW 0, HIGH 1, OPEN 2. -/
def safeLevelOfWord (w : Word) : Option SafeLevel :=
  if w = 0 then some .low else if w = 1 then some .high else if w = 2 then some .openLevel else none

/-- Drive: PUSH_PULL 0, OPEN_DRAIN 1. -/
def driveOfWord (w : Word) : Option Drive :=
  if w = 0 then some .pushPull else if w = 1 then some .openDrain else none

/-- Release style: IMMEDIATE 0, AT_BOUNDARY 1. -/
def releaseStyleOfWord (w : Word) : Option ReleaseStyle :=
  if w = 0 then some .immediate else if w = 1 then some .atBoundary else none

/-- Edge setting: OFF 0, RISING 1, FALLING 2, BOTH 3. -/
def edgeSettingOfWord (w : Word) : Option EdgeSetting :=
  if w = 0 then some .off else if w = 1 then some .rising else if w = 2 then some .falling
  else if w = 3 then some .both else none

/-- A comparator selector of ARM_SINGLE (R135). -/
inductive Selector where
  | keep
  | arm
  | disarm
  deriving DecidableEq, Repr

/-- Comparator selector: KEEP 0, ARM 1, DISARM 2. -/
def selectorOfWord (w : Word) : Option Selector :=
  if w = 0 then some .keep else if w = 1 then some .arm else if w = 2 then some .disarm else none

/-! The fields of CLAIM's argument words 4 and 5 (R175). -/

/-- Bits 1:0 of word 4: the base code. -/
def claimBaseCode (a : Args) : Word := (a[4].extractLsb' 0 2).setWidth 16

/-- Bits 3:2 of word 4: the grace action code. -/
def claimGraceActionCode (a : Args) : Word := (a[4].extractLsb' 2 2).setWidth 16

/-- Bits 7:4 of word 4: the urgency. -/
def claimUrgencyCode (a : Args) : Word := (a[4].extractLsb' 4 4).setWidth 16

/-- Bits 9:8 of word 4: the boundary-notices code. -/
def claimBoundaryCode (a : Args) : Word := (a[4].extractLsb' 8 2).setWidth 16

/-- Bit 15 of word 5: a renew line is named. -/
def claimLineNamed (a : Args) : Bool := a[5].getLsbD 15

/-- Bits 3:0 of word 5: the renew line number. -/
def claimLineNumber (a : Args) : Word := (a[5].extractLsb' 0 4).setWidth 16

/-- Words 1 and 2: the term. -/
def claimTerm (a : Args) : Ticks := ticksOfWords a[1] a[2]

/-- Words 6 and 7: the wait limit. -/
def claimWaitLimit (a : Args) : Ticks := ticksOfWords a[6] a[7]

/-! ### Codes of enumerated values in results (section 11.3) -/

def baseCode : Base → Word
  | .a => 0
  | .b => 1

def GraceAction.code : GraceAction → Word
  | .hold => 0
  | .park => 1

def LeaseState.code : LeaseState → Word
  | .free => 0
  | .held => 1
  | .grace => 2
  | .lapsed => 3

/-- End reason, absent 0. -/
def endReasonCode : Option EndReason → Word
  | none => 0
  | some .expired => 1
  | some .revoked => 2
  | some .baseStalled => 3

def ChannelState.code : ChannelState → Word
  | .idle => 0
  | .active => 1
  | .parked => 2
  | .draining => 3

def Mode.code : Mode → Word
  | .level => 0
  | .single => 1
  | .periodic => 2

def BaseBState.code : BaseBState → Word
  | .stopped => 0
  | .running => 1
  | .stalled => 2

def Polarity.code : Polarity → Word
  | .normal => 0
  | .inverted => 1

def Drive.code : Drive → Word
  | .pushPull => 0
  | .openDrain => 1

def SafeLevel.code : SafeLevel → Word
  | .low => 0
  | .high => 1
  | .openLevel => 2

def ReleaseStyle.code : ReleaseStyle → Word
  | .immediate => 0
  | .atBoundary => 1

def EdgeSetting.code : EdgeSetting → Word
  | .off => 0
  | .rising => 1
  | .falling => 2
  | .both => 3

def Role.code : Role → Word
  | .supervisor => 0
  | .user => 1

def DeviceNotice.code : DeviceNotice → Word
  | .none => 0
  | .baseBStalled => 1

/-- R172: 00b IDLE, 01b BUSY, 10b DONE. -/
def WindowState.code : WindowState → Word
  | .idle => 0
  | .busy => 1
  | .done => 2

/-- R174. -/
def ResultCode.value : ResultCode → Word
  | .ok => 0x00
  | .unknownCommand => 0x01
  | .badArgument => 0x02
  | .masterDisabled => 0x03
  | .notPermitted => 0x04
  | .staleHandle => 0x05
  | .notHolder => 0x06
  | .leaseLapsed => 0x07
  | .wrongState => 0x08
  | .channelBusy => 0x09
  | .channelReserved => 0x0A
  | .ownConflict => 0x0B
  | .tableFull => 0x0C
  | .quota => 0x0D
  | .queueFull => 0x0E
  | .baseUnavailable => 0x0F
  | .lineBusy => 0x10
  | .timedOut => 0x11
  | .aborted => 0x12
  | .wrongMode => 0x13
  | .modePath => 0x14
  | .noOffer => 0x15
  | .offerListFull => 0x16
  | .staleNotice => 0x17

/-- The result code word: 00FFh while no code is present (R172). -/
def resultCodeWord : Option ResultCode → Word
  | none => 0x00FF
  | some c => c.value

/-- The bit of a kind in the notice kinds word (section 11.3). -/
def NoticeKind.bit : NoticeKind → KindSet
  | .grace => 0b000001
  | .lapsed => 0b000010
  | .boundary => 0b000100
  | .singleDone => 0b001000
  | .transferred => 0b010000
  | .offerDeclined => 0b100000

/-! ### Packing of results (R173) -/

/-- The handle word of a lease number and a generation. -/
def handleWord (n : Fin 64) (generation : BitVec 8) : Word :=
  (generation.setWidth 16 <<< 6) ||| BitVec.ofNat 16 n.val

/-- A stamp in two words, the low half first. -/
def stampWords (t : Stamp) : List Word := [t.extractLsb' 0 16, t.extractLsb' 16 16]

/-- A term in two words; bits 15:8 of the second read 0. -/
def ticksWords (t : Ticks) : List Word := [t.extractLsb' 0 16, (t.extractLsb' 16 8).setWidth 16]

/-- A value of 15 bits or fewer that may be absent: presence in bit 15, and 0 when absent. -/
def presentWord : Option Word → Word
  | none => 0
  | some w => 0x8000 ||| w

/-- A master or line number that may be absent. -/
def presentEight (x : Option (Fin 8)) : Word := presentWord (x.map fun k => natWord k.val)

/-- The notice kinds word of a set. -/
def kindsWord (k : KindSet) : Word := k.setWidth 16

/-- The permitted-masters word of a set; bits 15:8 read 0. -/
def mastersWord (p : MasterSet) : Word := p.setWidth 16

/-- The twelve result words holding these items from word 0 on; a word that holds no item is 0 (R163, R173). -/
def resultWords (l : List Word) : Vector Word 12 := tabulate fun i => l.getD i.val 0

end Sys2Proof.Machine
end

