-- ==== Sys2Proof/Machine/Ops.lean ====
section
/-! DEFINITION. The named operations over the state: stamps, windows, notices, channels, expiry queues, the grant, the lapse step,
the freeing step, the renewal, the scan, the parts of an A-tick, and the taking of a command. -/

namespace Sys2Proof.Machine

/-! ### Stamps and bases (R25 to R30, R35) -/

/-- A stamp is reached when the base lies at it or up to 2³¹ − 1 ticks past it (R25). -/
def reached (stamp now : Stamp) : Bool := (now - stamp).toNat < 2 ^ 31

/-- The distance of a stamp from the present value, signed (R25). -/
def distance (stamp now : Stamp) : Int := (stamp - now).toInt

/-- R35. -/
def State.frozenA (s : State) : Bool := s.freeze && s.baseA.honourFreeze

/-- R35. -/
def State.frozenB (s : State) : Bool := s.freeze && s.baseB.honourFreeze

/-- The present value of a base. -/
def State.now (s : State) : Base → Stamp
  | .a => s.baseA.counter
  | .b => s.baseB.counter

/-- R30: the stall watch runs. -/
def State.watchRuns (s : State) : Bool :=
  s.baseB.state == .running && !s.frozenB && s.baseB.stallLimit != 0

/-! ### Windows (R158 to R163) -/

/-- Steps 1 to 3 of R161. -/
def Window.take (x : Window) (word : Word) : Window :=
  { x with state := .busy, command := word, code := none, words := resultWords [], collision := false,
           abortNotTaken := false, completionPending := false }

/-- R163: the result is written; every result word not named is 0; the drain set becomes empty. -/
def Window.complete (x : Window) (code : ResultCode) (items : List Word) : Window :=
  { x with state := .done, code := some code, words := resultWords items, drainSet := 0, released := 0, drained := 0 }

/-- R163, R149: a completion at a later event also sets the completion-pending flag. -/
def Window.completeLate (x : Window) (code : ResultCode) (items : List Word) : Window :=
  { x.complete code items with completionPending := true }

/-- R162, R165: the write is discarded and the collision flag set. -/
def Window.collide (x : Window) : Window := { x with collision := true }

/-- Window `w` of master `m` completes in the event that took its command. -/
def State.complete (s : State) (m : Fin 8) (w : Fin 2) (code : ResultCode) (items : List Word) : State :=
  s.setWindow m w ((s.window m w).complete code items)

/-- Window `w` of master `m` completes late. -/
def State.completeLate (s : State) (m : Fin 8) (w : Fin 2) (code : ResultCode) (items : List Word) : State :=
  s.setWindow m w ((s.window m w).completeLate code items)

/-! ### Looking at the tables -/

/-- The lowest channel of a set with a property. -/
def lowestIn (set : ChannelSet) (p : Fin 16 → Bool) : Option (Fin 16) :=
  (List.finRange 16).find? fun c => set.getLsbD c && p c

/-- The set of the channels with a property. -/
def channelSetOf (p : Fin 16 → Bool) : ChannelSet :=
  (List.finRange 16).foldr (fun c acc => if p c then acc ||| (1#16 <<< c.val) else acc) 0

/-- The number of waiting claims that name a channel (R20, R51). -/
def State.waitingFor (s : State) (c : Fin 16) : Nat := s.claims.countP fun q => q.channels.getLsbD c

/-- R53: a channel is reserved while a claim in the grant queue names it. -/
def State.isReserved (s : State) (c : Fin 16) : Bool := s.claims.any fun q => q.channels.getLsbD c

/-- The waiting claim that names a renew line, if one does (R49, R83, R84). -/
def State.claimOnLine (s : State) (k : Fin 8) : Option Claim := s.claims.find? fun q => q.line == some k

/-- The claim is the one in window `w` of master `m`. -/
def Claim.isIn (q : Claim) (m : Fin 8) (w : Fin 2) : Bool := q.master == m && q.window == w

/-- R11: the lowest-numbered FREE record. -/
def State.lowestFree (s : State) : Option (Fin 64) :=
  (List.finRange 64).find? fun n => (s.lease n).state == .free

/-- R4: a live record is HELD or GRACE. -/
def Lease.live (l : Lease) : Bool := l.state == .held || l.state == .grace

/-- Every channel of the set is IDLE (R50, R55). -/
def State.allIdle (s : State) (set : ChannelSet) : Bool :=
  (List.finRange 16).all fun c => !set.getLsbD c || (s.channel c).state == .idle

/-- R123: the lowest channel of the set whose permitted masters do not contain `m`. -/
def State.lowestForbidden (s : State) (set : ChannelSet) (m : Fin 8) : Option (Fin 16) :=
  lowestIn set fun c => !(s.channel c).config.permitted.getLsbD m.val

/-- The channel is ACTIVE or PARKED, so that a lease governs it (R115). -/
def Channel.governed (ch : Channel) : Bool := ch.state == .active || ch.state == .parked

/-- The record of the lease that governs a channel, and its number. -/
def State.governor (s : State) (c : Fin 16) : Option (Fin 64 × Lease) :=
  if (s.channel c).governed then (s.channel c).governing.map fun n => (n, s.lease n) else none

/-- The channel is governed by a live lease of master `m` (R49, R74). -/
def State.ownGoverned (s : State) (m : Fin 8) (c : Fin 16) : Bool :=
  match s.governor c with
  | some (_, l) => l.live && l.holder == some m
  | none => false

/-- The handle word of record `n` as it stands. -/
def State.handle (s : State) (n : Fin 64) : Word := handleWord n (s.lease n).generation

/-! ### Notices (R148) -/

/-- R148: the kind joins the set and the count rises by one, from 65,535 to 0. -/
def Lease.raise (l : Lease) (k : NoticeKind) : Lease :=
  { l with notices := l.notices ||| k.bit, noticeCount := l.noticeCount + 1 }

/-- A notice is raised on lease `n`. -/
def State.raiseNotice (s : State) (n : Fin 64) (k : NoticeKind) : State :=
  s.setLease n ((s.lease n).raise k)

/-! ### Channels (R116 to R120) -/

/-- R120, steps 1 and 2. -/
def Channel.enterIdle (ch : Channel) : Channel :=
  { ch with state := .idle, governing := none, wave := .rest }

/-- R116, R13, R75: under lease `n`, in LEVEL mode with level 0 and flip-flop 0. -/
def Channel.enterActive (ch : Channel) (n : Fin 64) : Channel :=
  { ch with state := .active, governing := some n, wave := .rest }

/-- R117: entry of the lease into grace under PARK. -/
def Channel.park (ch : Channel) : Channel :=
  if ch.state = .active then { ch with state := .parked } else ch

/-- R117, R69: renewal of the lease. -/
def Channel.unpark (ch : Channel) : Channel :=
  if ch.state = .parked then { ch with state := .active } else ch

/-- R118: a release sends this channel DRAINING. -/
def Channel.drains (ch : Channel) : Bool :=
  ch.state == .active && ch.wave.mode == .periodic && ch.config.releaseStyle == .atBoundary

/-- R118: the outcome of a release by state, mode and release style. -/
def Channel.release (ch : Channel) : Channel :=
  if ch.drains then { ch with state := .draining, governing := none }
  else if ch.governed then ch.enterIdle
  else ch

/-- Every channel of the set is released (R118). -/
def State.releaseChannels (s : State) (set : ChannelSet) : State :=
  s.mapChannels fun c ch => if set.getLsbD c.val then ch.release else ch

/-- The channels of the set that a release sends DRAINING (R86). -/
def State.drainingOf (s : State) (set : ChannelSet) : ChannelSet :=
  channelSetOf fun c => set.getLsbD c.val && (s.channel c).drains

/-- Every channel of the set goes ACTIVE under lease `n` (R13, R75). -/
def State.governChannels (s : State) (set : ChannelSet) (n : Fin 64) : State :=
  s.mapChannels fun c ch => if set.getLsbD c.val then ch.enterActive n else ch

/-! ### Expiry queues (R38, R39) -/

/-- Enter a queue ordered by distance `d`, after any entries at an equal distance (R38). -/
def insertByDistance (d : Fin 64 → Int) (n : Fin 64) : List (Fin 64) → List (Fin 64)
  | [] => [n]
  | x :: xs => if d x ≤ d n then x :: insertByDistance d n xs else n :: x :: xs

/-- Lease `n` leaves the queue of the base (R39, Remove). -/
def State.leaveExpiry (s : State) (base : Base) (n : Fin 64) : State :=
  s.setExpiryQueue base ((s.expiryQueue base).filter (· != n))

/-- Lease `n` enters the queue of the base at the stamp its record holds (R39, Insert). -/
def State.enterExpiry (s : State) (base : Base) (n : Fin 64) : State :=
  s.setExpiryQueue base (insertByDistance (fun x => distance (s.lease x).expiry (s.now base)) n (s.expiryQueue base))

/-- Lease `n` leaves its place and enters again at its new stamp (R39, Requeue). -/
def State.requeue (s : State) (base : Base) (n : Fin 64) : State := (s.leaveExpiry base n).enterExpiry base n

/-! ### Lines and offers -/

/-- R82: the line, if one is named, becomes unbound; its edge setting and last edge stamp are kept. -/
def State.unbindLine (s : State) (k : Option (Fin 8)) : State :=
  match k with
  | none => s
  | some k => s.setLine k { s.line k with bound := none }

/-- R13: the line, if one is named, becomes bound to lease `n`. -/
def State.bindLine (s : State) (k : Option (Fin 8)) (n : Fin 64) : State :=
  match k with
  | none => s
  | some k => s.setLine k { s.line k with bound := some n }

/-- Lease `n` leaves the offer list of the target, if there is one (R102). -/
def State.leaveOffers (s : State) (target : Option (Fin 8)) (n : Fin 64) : State :=
  match target with
  | none => s
  | some m => s.setOfferList m ((s.offerList m).filter (· != n))

/-! ### The lapse step and the freeing step (R14, R15) -/

/-- What R14 and R15 (from HELD or GRACE) both do to a live lease's neighbours: it leaves its expiry queue, its channels are
released, its line is unbound and its offer withdrawn. The record itself is not changed. -/
def State.detach (s : State) (n : Fin 64) : State :=
  let l := s.lease n
  (((s.leaveExpiry l.base n).releaseChannels l.channels).unbindLine l.line).leaveOffers l.offerTarget n

/-- The record of a lease after the lapse step, before its LAPSED notice (R2, R14). -/
def Lease.lapsed (l : Lease) (why : EndReason) : Lease :=
  { l with state := .lapsed, channels := 0, stagedTerm := none, line := none, endReason := some why, offerTarget := none }

/-- R14: the lapse step on a live lease. -/
def State.lapse (s : State) (n : Fin 64) (why : EndReason) : State :=
  ((s.detach n).setLease n ((s.lease n).lapsed why)).raiseNotice n .lapsed

/-- R9: the count of master `m`, if there is one, falls by one. -/
def State.lowerCount (s : State) (m : Option (Fin 8)) : State :=
  match m with
  | none => s
  | some m => s.setMaster m { s.master m with count := (s.master m).count - 1 }

/-- R9: the count of master `m` rises by one. -/
def State.raiseCount (s : State) (m : Fin 8) : State :=
  s.setMaster m { s.master m with count := (s.master m).count + 1 }

/-- R15: the freeing step on a record that is not FREE. -/
def State.freeLease (s : State) (n : Fin 64) : State :=
  let l := s.lease n
  let t := if l.live then s.detach n else s
  (t.setLease n (.rest l.generation)).lowerCount l.holder

/-! ### The grant (R5, R11 to R13) -/

/-- R5: the next generation of a record. -/
def nextGeneration (g : BitVec 8) : BitVec 8 := if g = 255 then 1 else g + 1

/-- R12: the record a grant sets, given the record it was and the present value of the claim's base. -/
def Claim.granted (q : Claim) (old : Lease) (now : Stamp) : Lease where
  state := .held
  generation := nextGeneration old.generation
  holder := some q.master
  channels := q.channels
  base := q.base
  term := q.term
  stagedTerm := none
  grace := q.grace
  graceAction := q.graceAction
  expiry := now + q.term.setWidth 32
  line := q.line
  lastRenewal := now
  renewals := 0
  urgency := q.urgency
  boundaryNotices := q.boundaryNotices
  endReason := none
  offerTarget := none
  notices := 0
  noticeCount := 0

/-- R12, R13: the grant of claim `q` on record `n`. -/
def State.grant (s : State) (q : Claim) (n : Fin 64) : State :=
  ((((s.setLease n (q.granted (s.lease n) (s.now q.base))).enterExpiry q.base n).governChannels q.channels n).bindLine
    q.line n).raiseCount q.master

/-- The result words of a grant on record `n`: the handle and the expiry stamp (R50, R175). -/
def State.grantWords (s : State) (n : Fin 64) : List Word := s.handle n :: stampWords (s.lease n).expiry

/-! ### The scan (R54 to R56) -/

/-- R55: the record a scan grants claim `q`, if its four conditions hold with this reserved set. -/
def State.scanRecord (s : State) (reserved : ChannelSet) (q : Claim) : Option (Fin 64) :=
  if s.allIdle q.channels && (q.channels &&& reserved) == 0 && (s.master q.master).count < (s.master q.master).quota then
    s.lowestFree
  else none

/-- R56: the grant of a waiting claim; its window completes late. -/
def State.grantWaiting (s : State) (q : Claim) (n : Fin 64) : State :=
  let t := s.grant q n
  t.completeLate q.master q.window .ok (t.grantWords n)

/-- R55: the walk, from the oldest claim to the newest. It answers the state and the claims that keep waiting. -/
def State.scanWalk (s : State) (reserved : ChannelSet) : List Claim → State × List Claim
  | [] => (s, [])
  | q :: qs =>
    match s.scanRecord reserved q with
    | some n => (s.grantWaiting q n).scanWalk reserved qs
    | none =>
      let r := s.scanWalk (reserved ||| q.channels) qs
      (r.1, q :: r.2)

/-- R55: one scan of the grant queue. -/
def State.scan (s : State) : State :=
  let r := s.scanWalk 0 s.claims
  { r.1 with claims := r.2 }

/-- R54: the event that led from `before` to `after` brings a scan trigger (log 23). -/
def scanTriggered (before after : State) : Bool :=
  (List.finRange 16).any (fun c => (before.channel c).state != .idle && (after.channel c).state == .idle)
  || (List.finRange 64).any (fun n => (before.lease n).state != .free && (after.lease n).state == .free)
  || (List.finRange 8).any (fun m => (after.master m).count < (before.master m).count
      || (before.master m).quota < (after.master m).quota || (!(before.master m).enabled && (after.master m).enabled))
  || after.claims.length < before.claims.length

/-- R54: the scan closes the event that triggered it; an event that brings no trigger leads to no scan. -/
def closeEvent (before after : State) : State := if scanTriggered before after then after.scan else after

/-! ### Claims that leave the queue without a grant (R57, R59, R45, R23, R62, R63) -/

/-- The claims with a property leave the queue with no result. -/
def State.removeClaims (s : State) (p : Claim → Bool) : State :=
  { s with claims := s.claims.filter fun q => !p q }

/-- The claims with a property leave the queue, and their windows complete late with `code` and no result words. -/
def State.endClaims (s : State) (p : Claim → Bool) (code : ResultCode) : State :=
  (s.mapWindows fun m w x => if s.claims.any (fun q => p q && q.isIn m w) then x.completeLate code [] else x).removeClaims p

/-! ### Renewal (R68, R69) -/

/-- R68, steps 1, 2, 4 (the record), 5 and 6. -/
def Lease.renewed (l : Lease) (now stamp : Stamp) : Lease :=
  let term := l.stagedTerm.getD l.term
  { l with state := .held, term := term, stagedTerm := none, expiry := now + term.setWidth 32,
           renewals := if l.renewals = 65535 then 65535 else l.renewals + 1, lastRenewal := stamp }

/-- R68: the renewal of live lease `n`, with `stamp` as its last renewal stamp. -/
def State.renewLease (s : State) (n : Fin 64) (stamp : Stamp) : State :=
  let l := s.lease n
  let t := (s.setLease n (l.renewed (s.now l.base) stamp)).requeue l.base n
  if l.state = .grace then t.mapChannels fun c ch => if l.channels.getLsbD c.val then ch.unpark else ch else t

/-! ### Expiry (R40 to R42) -/

/-- R41: a HELD lease enters grace. -/
def State.enterGrace (s : State) (n : Fin 64) : State :=
  let l := s.lease n
  let t := ((s.setLease n { l with state := .grace, expiry := l.expiry + l.grace.setWidth 32 }).requeue l.base n).raiseNotice n .grace
  if l.graceAction = .park then t.mapChannels fun c ch => if l.channels.getLsbD c.val then ch.park else ch else t

/-- R40: the event acts on the head of the queue of the base, if its stamp is reached, by R41 or R42. -/
def State.takeExpiry (s : State) (base : Base) : State :=
  match s.expiryQueue base with
  | [] => s
  | n :: _ =>
    let l := s.lease n
    if reached l.expiry (s.now base) then
      if l.state = .held ∧ l.grace ≠ 0 then s.enterGrace n
      else if l.live then closeEvent s (s.lapse n .expired)
      else s
    else s

/-! ### Waveform generators (R136 to R139) -/

/-- R136, steps 1 and 2: the comparators that match change the flip-flop and are disarmed. -/
def Waveform.matched (v : Waveform) (rise fall : Bool) : Waveform :=
  { v with flipFlop := if fall then false else if rise then true else v.flipFlop,
           rise := if rise then none else v.rise, fall := if fall then none else v.fall }

/-- An armed comparator whose stamp is reached. -/
def comparatorReached (armed : Option Stamp) (now : Stamp) : Bool :=
  match armed with
  | some t => reached t now
  | none => false

/-- A notice is raised on the lease that governs channel `c`, if one does. -/
def State.notifyGovernor (s : State) (c : Fin 16) (k : NoticeKind) : State :=
  match (s.channel c).governing with
  | some n => s.raiseNotice n k
  | none => s

/-- R136: the named comparators of channel `c` match in one event. -/
def State.matchComparators (s : State) (c : Fin 16) (rise fall : Bool) : State :=
  if rise || fall then
    let v := (s.channel c).wave.matched rise fall
    let t := s.setChannel c { s.channel c with wave := v }
    if v.rise = none ∧ v.fall = none then t.notifyGovernor c .singleDone else t
  else s

/-- R139, steps 1 to 3, and R141, steps 1 to 3: a new period begins, taking any staged pair. -/
def Waveform.startPeriod (v : Waveform) : Waveform :=
  let pair := v.staged.getD (v.period, v.width)
  { v with period := pair.1, width := pair.2, staged := none, position := 0, flipFlop := pair.2 != 0 }

/-- R139, R141: a new period begins on channel `c`, and BOUNDARY is raised if the governing lease's option is ON. -/
def State.startPeriod (s : State) (c : Fin 16) : State :=
  let t := s.setChannel c { s.channel c with wave := (s.channel c).wave.startPeriod }
  match (s.channel c).governing with
  | some n => if (s.lease n).boundaryNotices then t.raiseNotice n .boundary else t
  | none => t

/-- R138: a PERIODIC position rises by one. -/
def Waveform.advance (v : Waveform) : Waveform :=
  if v.mode = .periodic then { v with position := v.position + 1 } else v

/-! ### The advances of the bases (R27, R29) -/

/-- R27: the prescaler count has reached the divisor, so that an A-tick is due. -/
def State.aTickDue (s : State) : Bool := !s.frozenA && s.baseA.divisorInUse.toNat ≤ s.baseA.count

/-- R29: the edge count has reached the divisor, so that a B-tick is due. -/
def State.bTickDue (s : State) : Bool :=
  s.baseB.state == .running && !s.frozenB && s.baseB.divisorInUse.toNat ≤ s.baseB.edgeCount

/-- R27, R28, R30, R138: base A advances, the stall watch rises if it runs, and every PERIODIC position rises. The other
parts of the A-tick are open until they are taken. -/
def State.advanceA (s : State) : State :=
  { s.mapChannels (fun _ ch => { ch with wave := ch.wave.advance }) with
    baseA := { s.baseA with counter := s.baseA.counter + 1, count := 0, divisorInUse := s.baseA.divisor }
    baseB := { s.baseB with stallWatch := if s.watchRuns then s.baseB.stallWatch + 1 else s.baseB.stallWatch } }

/-- R29, R32: base B advances. -/
def State.advanceB (s : State) : State :=
  { s with baseB := { s.baseB with
      counter := s.baseB.counter + 1, edgeCount := 0, divisorInUse := s.baseB.divisor } }

/-- A due A-tick and a due B-tick begin. -/
def State.startTicks (s : State) : State :=
  let t := if s.aTickDue then s.advanceA else s
  if t.bTickDue then t.advanceB else t

/-! ### The parts of an A-tick (R31, R57, R119, R137 to R139) -/

/-- R137: an armed comparator of a SINGLE channel is reached. -/
def State.comparatorDue (s : State) (c : Fin 16) : Bool :=
  let v := (s.channel c).wave
  v.mode == .single && (comparatorReached v.rise s.baseA.counter || comparatorReached v.fall s.baseA.counter)

/-- R138: the position of a PERIODIC channel is at its width, below the period, and the width edge is not yet made. -/
def State.widthEdgeDue (s : State) (c : Fin 16) : Bool :=
  let v := (s.channel c).wave
  v.mode == .periodic && v.position == v.width && v.width.toNat < v.period.toNat && v.flipFlop

/-- R138: the position of a PERIODIC channel has reached the period. -/
def Waveform.atBoundary (v : Waveform) : Bool :=
  v.mode == .periodic && v.position == v.period && v.period != 0

/-- R139: a governed channel is at its boundary. -/
def State.boundaryDue (s : State) (c : Fin 16) : Bool := (s.channel c).governed && (s.channel c).wave.atBoundary

/-- R119: a DRAINING channel is at its boundary. -/
def State.drainEndDue (s : State) (c : Fin 16) : Bool :=
  (s.channel c).state == .draining && (s.channel c).wave.atBoundary

/-- R57: the claim's deadline is reached. -/
def State.deadlineReached (s : State) (q : Claim) : Bool :=
  match q.deadline with
  | some t => reached t s.baseA.counter
  | none => false

/-- R57: the deadline of a waiting claim is reached. -/
def State.waitDeadlineDue (s : State) : Bool := s.claims.any s.deadlineReached

/-- R30: the running stall watch has reached the stall limit. -/
def State.stallDue (s : State) : Bool :=
  s.watchRuns && s.baseB.stallLimit.toNat ≤ s.baseB.stallWatch.toNat

/-- R137: the reached comparators of channel `c` match. -/
def State.takeComparators (s : State) (c : Fin 16) : State :=
  if s.comparatorDue c then
    s.matchComparators c (comparatorReached (s.channel c).wave.rise s.baseA.counter)
      (comparatorReached (s.channel c).wave.fall s.baseA.counter)
  else s

/-- R138: the width edge of channel `c`. -/
def State.takeWidthEdge (s : State) (c : Fin 16) : State :=
  if s.widthEdgeDue c then s.setChannel c { s.channel c with wave := { (s.channel c).wave with flipFlop := false } } else s

/-- R139: the boundary of governed channel `c`. -/
def State.takeBoundary (s : State) (c : Fin 16) : State :=
  if s.boundaryDue c then s.startPeriod c else s

/-- R120, step 4: a window that waits for the drain of channel `c`; it completes when its last channel reaches IDLE (R88). -/
def Window.leaveDrain (x : Window) (c : Fin 16) : Window :=
  if x.drainSet.getLsbD c.val then
    if x.drainSet &&& ~~~(1#16 <<< c.val) = 0 then x.completeLate .ok [x.released, x.drained]
    else { x with drainSet := x.drainSet &&& ~~~(1#16 <<< c.val) }
  else x

/-- R119, R88: the boundary of DRAINING channel `c` ends its drain; the scan follows. -/
def State.takeDrainEnd (s : State) (c : Fin 16) : State :=
  if s.drainEndDue c then
    closeEvent s ((s.setChannel c (s.channel c).enterIdle).mapWindows fun _ _ x => x.leaveDrain c)
  else s

/-- R57: every claim whose deadline is reached leaves the queue; the scan follows. -/
def State.takeWaitDeadlines (s : State) : State :=
  if s.waitDeadlineDue then closeEvent s (s.endClaims s.deadlineReached .timedOut) else s

/-- R31, R44 to R46: the four effects of a stall event, and the scan after it. -/
def State.takeStall (s : State) : State :=
  if s.stallDue then
    let stalled := { s with baseB := { s.baseB with state := .stalled, edgeCount := 0, stallWatch := 0 } }
    let lapsed := s.expiryB.foldl (fun t n => t.lapse n .baseStalled) stalled
    let cleared := lapsed.endClaims (fun q => q.base == .b) .baseUnavailable
    closeEvent s { cleared with deviceNotice := .baseBStalled }
  else s

/-! ### Closing an A-tick (log 3, log 4) -/

/-- A part of an A-tick. -/
inductive TickPart where
  | stall
  | deadlines
  | comparators (c : Fin 16)
  | widthEdge (c : Fin 16)
  | boundary (c : Fin 16)
  | drainEnd (c : Fin 16)
  deriving DecidableEq, Repr

/-- The parts of the A-tick that are open: their condition holds and they are not yet taken. -/
def State.openParts (s : State) : List TickPart :=
  (if s.stallDue then [TickPart.stall] else []) ++ (if s.waitDeadlineDue then [TickPart.deadlines] else [])
  ++ (List.finRange 16).flatMap fun c =>
    (if s.comparatorDue c then [TickPart.comparators c] else []) ++ (if s.widthEdgeDue c then [TickPart.widthEdge c] else [])
    ++ (if s.boundaryDue c then [TickPart.boundary c] else []) ++ (if s.drainEndDue c then [TickPart.drainEnd c] else [])

/-- One part of the A-tick is taken. -/
def State.takePart (s : State) : TickPart → State
  | .stall => s.takeStall
  | .deadlines => s.takeWaitDeadlines
  | .comparators c => s.takeComparators c
  | .widthEdge c => s.takeWidthEdge c
  | .boundary c => s.takeBoundary c
  | .drainEnd c => s.takeDrainEnd c

/-- The open parts are taken one after another. Where more than one is open, which comes next is a free choice (log 4). -/
def State.closeParts (s : State) : Nat → State
  | 0 => s
  | fuel + 1 =>
    match s.openParts with
    | [] => s
    | [p] => (s.takePart p).closeParts fuel
    | p :: q :: ps =>
      let chosen := (p :: q :: ps).getD (Config.tickOrder s.freeCount % (ps.length + 2)) p
      ({ s with freeCount := s.freeCount + 1 }.takePart chosen).closeParts fuel

/-- The comparator matches, width edges and boundaries of governed channels. They touch different fields, and in any order
with each other, with drain ends and with deadlines leave the same state; only a stall can change what they find (R44). -/
def State.takeGenerators (s : State) : State :=
  (List.finRange 16).foldl (fun t c => ((t.takeComparators c).takeWidthEdge c).takeBoundary c) s

/-- The most parts one A-tick can have open at once: one per channel, the deadlines and the stall; a stall can open none but
drain ends in the place of boundaries. -/
def openPartsBound : Nat := 40

/-- Log 3: a due A-tick or B-tick is taken, and every part of the A-tick still open is taken. -/
def State.closeTick (s : State) : State :=
  let t := s.startTicks
  (if t.stallDue then t else t.takeGenerators).closeParts openPartsBound

/-- No tick is due and no part of an A-tick is open. -/
def State.quiet (s : State) : Bool := !s.aTickDue && !s.bTickDue && s.openParts.isEmpty

/-! ### Events (R177; log 3) -/

/-- An event that does not fall within an A-tick: nothing happens while RESET_N is asserted (R177); otherwise the A-tick before it is
closed, and the event is taken whole. -/
def event (f : State → State) (s : State) : Host.Outcome State Fault Refusal :=
  if s.resetAsserted then .next s else .next (f s.closeTick)

/-- An event that may fall within an A-tick, before other parts of it (a part of the tick itself, or an expiry event: R54, R58,
R119): a due tick is begun, and nothing else is closed. -/
def tickEvent (f : State → State) (s : State) : Host.Outcome State Fault Refusal :=
  if s.resetAsserted then .next s else .next (f s.startTicks)

/-! ### Taking a command (R161, R163, R167) -/

/-- What the owner of a command answers: the state after its effect, and the result with which the window completes in
this event, or none while it stays BUSY. -/
abbrev Reply := State × Option (ResultCode × List Word)

/-- The command completes with this code and these result items. -/
def answer (s : State) (code : ResultCode) (items : List Word := []) : Reply := (s, some (code, items))

/-- R161, step 4, and R167, checks 2 to 4. -/
def portCheck (s : State) (m : Fin 8) (reserved bad : Bool) : Option ResultCode :=
  if !(s.master m).enabled then some .masterDisabled
  else if reserved && m != 0 then some .notPermitted
  else if bad then some .badArgument
  else none

/-- R161, R162: a write of `word`, which names a command, to the command word of window `w` of master `m`. `reserved` says whether
the command is one of master 0 alone, `bad` whether an argument lies outside its range at the port, and `owner` takes the command. -/
def takeCommand (m : Fin 8) (w : Fin 2) (word : Word) (reserved bad : Args → Bool) (owner : Args → State → Reply)
    (s : State) : State :=
  let x := s.window m w
  if x.state = .busy then s.setWindow m w x.collide
  else
    let t := s.setWindow m w (x.take word)
    match portCheck t m (reserved x.args) (bad x.args) with
    | some code => t.complete m w code []
    | none =>
      match owner x.args t with
      | (u, some (code, items)) => u.complete m w code items
      | (u, none) => u

/-- The command is not reserved, or no argument is out of range at the port. -/
def never (_ : Args) : Bool := false

/-- The command is reserved to master 0 (R167). -/
def always (_ : Args) : Bool := true

/-! ### The handle checks (R7) -/

/-- R7: the checks of a handle-bearing command, in their order; `holder` and `lapsed` say which of checks 2 and 3 apply. -/
def State.checkHandle (s : State) (m : Fin 8) (h : Word) (holder lapsed : Bool) : Option ResultCode :=
  let l := s.lease (handleLease h)
  if l.state = .free ∨ l.generation ≠ handleGeneration h then some .staleHandle
  else if holder && l.holder != some m then some .notHolder
  else if lapsed && l.state == .lapsed then some .leaseLapsed
  else none

/-- A command on the lease that the handle names, once the handle checks pass. -/
def State.onLease (s : State) (m : Fin 8) (h : Word) (holder lapsed : Bool) (k : Fin 64 → Reply) : Reply :=
  match s.checkHandle m h holder lapsed with
  | some code => answer s code
  | none => k (handleLease h)

end Sys2Proof.Machine
end

