-- ==== Sys2Proof/Machine/Events.lean ====
section
/-! DEFINITION. The pins other than the renew lines, the ticks, and the events within a tick (chapters 2, 3, 7, 8 and R177). An event row
whose condition does not hold is no event and changes nothing (log 2). -/

namespace Sys2Proof.Machine

/-- R177: every block holds its power-on values. The levels of the input pins are not the part's to reset, and the model's own
fields are kept (log 19). -/
def State.powerOn (s : State) : State :=
  { State.reset with
    lines := tabulate (fun k => Line.powerOn (s.line k).level)
    freeze := s.freeze
    resetAsserted := true
    freeCount := s.freeCount
    pending := s.pending }

/-- RESET_N (R177): asserted, every block takes and holds its power-on values; deasserted, the part starts from them. -/
def execResetN (asserted : Bool) (s : State) : Host.Outcome State Fault Refusal :=
  if asserted then .next s.powerOn else .next { s with resetAsserted := false }

/-- R35, R30: the FREEZE input changes level; where base B ceases to be frozen, the stall watch starts afresh at 0. -/
def State.setFreeze (s : State) (asserted : Bool) : State :=
  if s.frozenB && !asserted then { s with freeze := asserted, baseB := { s.baseB with stallWatch := 0 } }
  else { s with freeze := asserted }

/-- FREEZE (R35). While RESET_N is asserted the pin changes all the same, and holds or frees nothing (R177). -/
def execFreeze (asserted : Bool) (s : State) : Host.Outcome State Fault Refusal :=
  if s.resetAsserted then .next { s with freeze := asserted } else event (fun t => t.setFreeze asserted) s

/-- R29, R30: a rising edge of TREF is counted while base B is RUNNING and not frozen. -/
def State.trefEdge (s : State) : State :=
  if s.baseB.state = .running ∧ s.frozenB = false then
    { s with baseB := { s.baseB with edgeCount := s.baseB.edgeCount + 1, stallWatch := 0 } }
  else s

/-- TREF_EDGE (R29). -/
def execTrefEdge (s : State) : Host.Outcome State Fault Refusal := event State.trefEdge s

/-- B_TICK (R29): the advance of base B, when the edge count has reached the divisor. -/
def execBTick (s : State) : Host.Outcome State Fault Refusal := tickEvent (fun t => t) s

/-- A_TICK (R27): the advance of base A, when the prescaler count has reached the divisor. Its other parts are open after it. -/
def execATick (s : State) : Host.Outcome State Fault Refusal :=
  if s.resetAsserted then .next s else if s.aTickDue then .next s.advanceA else .next s

/-- EXPIRY_EVENT of a base (R40). -/
def execExpiryEvent (base : Base) (s : State) : Host.Outcome State Fault Refusal := tickEvent (fun t => t.takeExpiry base) s

/-- STALL_EVENT (R31). -/
def execStallEvent (s : State) : Host.Outcome State Fault Refusal := tickEvent State.takeStall s

/-- WAIT_DEADLINE (R57): every claim whose deadline is reached. -/
def execWaitDeadline (s : State) : Host.Outcome State Fault Refusal := tickEvent State.takeWaitDeadlines s

/-- COMPARATOR_MATCH of a channel (R137). -/
def execComparatorMatch (c : Fin 16) (s : State) : Host.Outcome State Fault Refusal := tickEvent (fun t => t.takeComparators c) s

/-- WIDTH_EDGE of a channel (R138). -/
def execWidthEdge (c : Fin 16) (s : State) : Host.Outcome State Fault Refusal := tickEvent (fun t => t.takeWidthEdge c) s

/-- BOUNDARY of a governed channel (R139). -/
def execBoundary (c : Fin 16) (s : State) : Host.Outcome State Fault Refusal := tickEvent (fun t => t.takeBoundary c) s

/-- DRAIN_END of a channel (R119). -/
def execDrainEnd (c : Fin 16) (s : State) : Host.Outcome State Fault Refusal := tickEvent (fun t => t.takeDrainEnd c) s

/-- R27: one period of the system clock raises the prescaler count while base A is not frozen. -/
def State.clockPeriod (s : State) : State :=
  if s.frozenA then s else { s with baseA := { s.baseA with count := s.baseA.count + 1 } }

/-- SYSTEM_CLOCK_PERIOD (R27). -/
def execSystemClockPeriod (s : State) : Host.Outcome State Fault Refusal := event State.clockPeriod s

end Sys2Proof.Machine
end

