-- ==== Sys2Proof/Machine/Channels.lean ====
section
/-! DEFINITION. CONFIG_CHANNEL (chapter 7, section 7.6). -/

namespace Sys2Proof.Machine

/-- R124: what the port refuses; OPEN_DRAIN with safe level HIGH among it. -/
def configChannelBad (a : Args) : Bool :=
  15 < a[0].toNat || (polarityOfWord a[1]).isNone || (safeLevelOfWord a[2]).isNone || (driveOfWord a[3]).isNone
  || (releaseStyleOfWord a[4]).isNone || (a[3] == 1 && a[2] == 1)

/-- R124: the configuration the argument words give. -/
def configOf (a : Args) : ChannelConfig where
  polarity := (polarityOfWord a[1]).getD .normal
  safeLevel := (safeLevelOfWord a[2]).getD .openLevel
  drive := (driveOfWord a[3]).getD .pushPull
  releaseStyle := (releaseStyleOfWord a[4]).getD .immediate
  permitted := mastersOfWord a[5]

/-- R125: a configuration as result items. -/
def ChannelConfig.words (g : ChannelConfig) : List Word :=
  [g.polarity.code, g.safeLevel.code, g.drive.code, g.releaseStyle.code, mastersWord g.permitted]

/-- R125. -/
def configChannelOwner (a : Args) (s : State) : Reply :=
  let c := channelOfWord a[0]
  let ch := s.channel c
  if ch.state ≠ .idle ∨ s.isReserved c = true then answer s .channelBusy [ch.state.code, natWord (s.waitingFor c)]
  else answer (s.setChannel c { ch with config := configOf a }) .ok ch.config.words

/-- CONFIG_CHANNEL, command code 61h (R124). -/
def configChannelCommand (m : Fin 8) (w : Fin 2) (s : State) : State :=
  takeCommand m w 0x0061 always configChannelBad configChannelOwner s

def execConfigChannel (m : Fin 8) (w : Fin 2) (s : State) : Host.Outcome State Fault Refusal := event (configChannelCommand m w) s

end Sys2Proof.Machine
end

