-- ==== Sys2Proof/Machine/Claims.lean ====
section
/-! DEFINITION. CLAIM and QUERY_CLAIMS (chapter 3). -/

namespace Sys2Proof.Machine

/-! ### CLAIM -/

/-- R48: what the port refuses BAD_ARGUMENT. -/
def claimBad (a : Args) : Bool :=
  (baseOfCode (claimBaseCode a)).isNone || (graceActionOfWord (claimGraceActionCode a)).isNone
  || 7 < (claimUrgencyCode a).toNat || (onOffOfWord (claimBoundaryCode a)).isNone

/-- R48, R175: the claim that the argument words of window `w` of master `m` describe. -/
def claimOf (m : Fin 8) (w : Fin 2) (a : Args) : Claim where
  master := m
  window := w
  channels := a[0]
  base := (baseOfCode (claimBaseCode a)).getD .a
  term := claimTerm a
  grace := a[3]
  graceAction := (graceActionOfWord (claimGraceActionCode a)).getD .hold
  urgency := urgencyOfWord (claimUrgencyCode a)
  boundaryNotices := (onOffOfWord (claimBoundaryCode a)).getD false
  line := if claimLineNamed a then some (eightOfWord (claimLineNumber a)) else none
  deadline := none
  arrival := 0

/-- R49: the line is bound to a lease, or named by a claim in the grant queue. -/
def State.lineBusy (s : State) (k : Fin 8) : Bool := (s.line k).bound.isSome || (s.claimOnLine k).isSome

/-- R49: the first check that fails, with its result items. -/
def State.claimRefusal (s : State) (q : Claim) (a : Args) : Option (ResultCode × List Word) :=
  if q.channels = 0 ∨ q.term = 0 ∨ (claimLineNamed a = true ∧ 7 < (claimLineNumber a).toNat) then some (.badArgument, [])
  else match s.lowestForbidden q.channels q.master with
  | some c => some (.notPermitted, [natWord c.val])
  | none =>
    if q.base = .b ∧ s.baseB.state ≠ .running then some (.baseUnavailable, [s.baseB.state.code])
    else match lowestIn q.channels (s.ownGoverned q.master) with
    | some c => some (.ownConflict, [natWord c.val, match s.governor c with | some (n, _) => s.handle n | none => 0])
    | none =>
      if (match q.line with | some k => s.lineBusy k | none => false) then
        some (.lineBusy, [natWord ((q.line.map (·.val)).getD 0)])
      else if (s.master q.master).quota ≤ (s.master q.master).count then
        some (.quota, [natWord (s.master q.master).count, natWord (s.master q.master).quota])
      else none

/-- R50: the record a CLAIM is granted at once, if it is grantable now. -/
def State.grantableNow (s : State) (q : Claim) : Option (Fin 64) :=
  if s.allIdle q.channels && (lowestIn q.channels s.isReserved).isNone then s.lowestFree else none

/-- R51: the result of a CLAIM with wait limit 0 that is not grantable now. -/
def State.claimNotNow (s : State) (q : Claim) : ResultCode × List Word :=
  match lowestIn q.channels fun c => (s.channel c).state != .idle with
  | some c => (.channelBusy, [natWord c.val, (s.channel c).state.code])
  | none =>
    match lowestIn q.channels s.isReserved with
    | some c => (.channelReserved, [natWord c.val, natWord (s.waitingFor c)])
    | none => (.tableFull, [])

/-- R52: the wait deadline that a wait limit of 1 or more gives. -/
def State.waitDeadline (s : State) (limit : Ticks) : Option Stamp :=
  if limit = 0xFFFFFF then none else some (s.baseA.counter + limit.setWidth 32)

/-- R52: the claim joins the tail of the queue. -/
def State.joinQueue (s : State) (q : Claim) (limit : Ticks) : State :=
  { s with
    arrivals := s.arrivals + 1
    claims := s.claims ++ [{ q with deadline := s.waitDeadline limit, arrival := s.arrivals + 1 }] }

/-- R49 to R52: a CLAIM taken at the Lease Table together with the Grant Queue. -/
def claimOwner (m : Fin 8) (w : Fin 2) (a : Args) (s : State) : Reply :=
  let q := claimOf m w a
  match s.claimRefusal q a with
  | some (code, items) => answer s code items
  | none =>
    match s.grantableNow q with
    | some n => answer (s.grant q n) .ok ((s.grant q n).grantWords n)
    | none =>
      if claimWaitLimit a = 0 then answer s (s.claimNotNow q).1 (s.claimNotNow q).2
      else if Config.queueCapacity ≤ s.claims.length then answer s .queueFull
      else (s.joinQueue q (claimWaitLimit a), none)

/-- CLAIM, command code 10h (R48). -/
def claimCommand (m : Fin 8) (w : Fin 2) (s : State) : State :=
  takeCommand m w 0x0010 never claimBad (claimOwner m w) s

def execClaim (m : Fin 8) (w : Fin 2) (s : State) : Host.Outcome State Fault Refusal :=
  event (claimCommand m w) s

/-! ### QUERY_CLAIMS -/

/-- The channels named by these claims. -/
def channelsNamed (l : List Claim) : ChannelSet := l.foldl (fun acc q => acc ||| q.channels) 0

/-- R66, section 11.3: the waiting reason of a claim, given the claims older than it; 0 where none holds. -/
def State.waitingReason (s : State) (older : List Claim) (q : Claim) : Word :=
  if !s.allIdle q.channels then 1
  else if q.channels &&& channelsNamed older ≠ 0 then 2
  else if s.lowestFree = none then 3
  else if (s.master q.master).quota ≤ (s.master q.master).count then 4
  else 0

/-- R65, R176: the result words of QUERY_CLAIMS for a position. -/
def State.queryClaimsWords (s : State) (position : Nat) : List Word :=
  match s.claims[position]? with
  | none => [natWord s.claims.length, s.arrivals]
  | some q =>
    [natWord s.claims.length ||| 0x8000 ||| (s.waitingReason (s.claims.take position) q <<< 8),
     s.arrivals,
     natWord q.master.val ||| (natWord q.window.val <<< 4) ||| (baseCode q.base <<< 8) ||| (q.graceAction.code <<< 12)
       ||| (bitWord q.boundaryNotices <<< 13),
     q.channels,
     q.term.extractLsb' 0 16,
     (q.term.extractLsb' 16 8).setWidth 16 ||| (q.urgency.setWidth 16 <<< 12),
     q.grace,
     presentEight q.line]
    ++ stampWords (q.deadline.getD 0) ++ [q.arrival, bitWord q.deadline.isSome]

/-- QUERY_CLAIMS, command code 32h (R65). -/
def queryClaimsCommand (m : Fin 8) (w : Fin 2) (s : State) : State :=
  takeCommand m w 0x0032 always (fun a => 11 < a[0].toNat) (fun a s => answer s .ok (s.queryClaimsWords a[0].toNat)) s

def execQueryClaims (m : Fin 8) (w : Fin 2) (s : State) : Host.Outcome State Fault Refusal :=
  event (queryClaimsCommand m w) s

end Sys2Proof.Machine
end

