-- ==== Sys2Proof/Machine/Ending.lean ====
section
/-! DEFINITION. RELEASE, RETIRE, PURGE and REVOKE (chapter 5). -/

namespace Sys2Proof.Machine

/-! ### RELEASE -/

/-- R86: drain option NO_WAIT 0, WAIT 1. -/
def releaseBad (a : Args) : Bool := (onOffOfWord a[1]).isNone

/-- R88: the window stays BUSY with its drain set, and keeps the two result words for its completion. -/
def State.waitForDrain (s : State) (m : Fin 8) (w : Fin 2) (released drained : ChannelSet) : State :=
  s.setWindow m w { s.window m w with drainSet := drained, released := released, drained := drained }

/-- R86 to R88. -/
def releaseOwner (m : Fin 8) (w : Fin 2) (a : Args) (s : State) : Reply :=
  s.onLease m a[0] true true fun n =>
    let released := (s.lease n).channels
    let drained := s.drainingOf released
    if a[1] = 1 ∧ drained ≠ 0 then ((s.freeLease n).waitForDrain m w released drained, none)
    else answer (s.freeLease n) .ok [released, drained]

/-- RELEASE, command code 16h (R86); the scan follows (R87). -/
def releaseCommand (m : Fin 8) (w : Fin 2) (s : State) : State :=
  closeEvent s (takeCommand m w 0x0016 never releaseBad (releaseOwner m w) s)

def execRelease (m : Fin 8) (w : Fin 2) (s : State) : Host.Outcome State Fault Refusal := event (releaseCommand m w) s

/-! ### RETIRE and PURGE -/

/-- R93: the end reason, the notice set and the notice count, as they stand. -/
def Lease.endWords (l : Lease) : List Word := [endReasonCode l.endReason, kindsWord l.notices, l.noticeCount]

/-- R93. -/
def retireOwner (m : Fin 8) (a : Args) (s : State) : Reply :=
  s.onLease m a[0] true false fun n =>
    let l := s.lease n
    if l.live then answer s .wrongState [l.state.code] else answer (s.freeLease n) .ok l.endWords

/-- RETIRE, command code 17h (R93); the scan follows. -/
def retireCommand (m : Fin 8) (w : Fin 2) (s : State) : State :=
  closeEvent s (takeCommand m w 0x0017 never never (retireOwner m) s)

def execRetire (m : Fin 8) (w : Fin 2) (s : State) : Host.Outcome State Fault Refusal := event (retireCommand m w) s

/-- The number of a lease's holder. A record that is not FREE has one (R2). -/
def Lease.holderWord (l : Lease) : Word := natWord ((l.holder.map (·.val)).getD 0)

/-- R94. -/
def purgeOwner (m : Fin 8) (a : Args) (s : State) : Reply :=
  s.onLease m a[0] false false fun n =>
    let l := s.lease n
    if l.live then answer s .wrongState [l.state.code] else answer (s.freeLease n) .ok (l.holderWord :: l.endWords)

/-- PURGE, command code 3Eh (R94); the scan follows. -/
def purgeCommand (m : Fin 8) (w : Fin 2) (s : State) : State :=
  closeEvent s (takeCommand m w 0x003E always never (purgeOwner m) s)

def execPurge (m : Fin 8) (w : Fin 2) (s : State) : Host.Outcome State Fault Refusal := event (purgeCommand m w) s

/-! ### REVOKE -/

/-- R90. -/
def revokeOwner (m : Fin 8) (a : Args) (s : State) : Reply :=
  s.onLease m a[0] false true fun n =>
    let l := s.lease n
    answer (s.lapse n .revoked) .ok [l.holderWord, l.channels, s.drainingOf l.channels]

/-- REVOKE, command code 3Dh (R90); the scan follows where a channel reached IDLE. -/
def revokeCommand (m : Fin 8) (w : Fin 2) (s : State) : State :=
  closeEvent s (takeCommand m w 0x003D always never (revokeOwner m) s)

def execRevoke (m : Fin 8) (w : Fin 2) (s : State) : Host.Outcome State Fault Refusal := event (revokeCommand m w) s

end Sys2Proof.Machine
end

