-- ==== Sys2Proof/Machine/Handover.lean ====
section
/-! DEFINITION. OFFER, WITHDRAW, ACCEPT, DECLINE and LIST_OFFERS (chapter 6). -/

namespace Sys2Proof.Machine

/-! ### OFFER -/

/-- R103: the first check that fails for an offer of lease `n` to `target`, with its result items. -/
def State.offerRefusal (s : State) (n : Fin 64) (target : Fin 8) : Option (ResultCode × List Word) :=
  if (s.lease n).holder = some target then some (.badArgument, [])
  else if (s.master target).enabled = false then some (.masterDisabled, [natWord target.val])
  else match s.lowestForbidden (s.lease n).channels target with
  | some c => some (.notPermitted, [natWord c.val])
  | none =>
    if Config.offerCapacity ≤ (s.offerList target).length ∧ ¬ n ∈ s.offerList target then
      some (.offerListFull, [natWord target.val])
    else none

/-- R104: any earlier offer is withdrawn, and the lease joins the tail of the target's list. -/
def State.makeOffer (s : State) (n : Fin 64) (target : Fin 8) : State :=
  let t := (s.leaveOffers (s.lease n).offerTarget n).setLease n { s.lease n with offerTarget := some target }
  t.setOfferList target (t.offerList target ++ [n])

/-- R103, R104. -/
def offerOwner (m : Fin 8) (a : Args) (s : State) : Reply :=
  s.onLease m a[0] true true fun n =>
    let target := eightOfWord a[1]
    match s.offerRefusal n target with
    | some (code, items) => answer s code items
    | none =>
      let t := s.makeOffer n target
      answer t .ok [natWord (t.offerList target).length, presentEight (s.lease n).offerTarget]

/-- OFFER, command code 18h (R103). -/
def offerCommand (m : Fin 8) (w : Fin 2) (s : State) : State :=
  takeCommand m w 0x0018 never (fun a => 7 < a[1].toNat) (offerOwner m) s

def execOffer (m : Fin 8) (w : Fin 2) (s : State) : Host.Outcome State Fault Refusal := event (offerCommand m w) s

/-! ### WITHDRAW -/

/-- R105, R108: the standing offer of lease `n`, if one stands, ends. -/
def State.endOffer (s : State) (n : Fin 64) : State :=
  (s.leaveOffers (s.lease n).offerTarget n).setLease n { s.lease n with offerTarget := none }

/-- R105. -/
def withdrawOwner (m : Fin 8) (a : Args) (s : State) : Reply :=
  s.onLease m a[0] true true fun n => answer (s.endOffer n) .ok [presentEight (s.lease n).offerTarget]

/-- WITHDRAW, command code 19h (R105). -/
def withdrawCommand (m : Fin 8) (w : Fin 2) (s : State) : State := takeCommand m w 0x0019 never never (withdrawOwner m) s

def execWithdraw (m : Fin 8) (w : Fin 2) (s : State) : Host.Outcome State Fault Refusal := event (withdrawCommand m w) s

/-! ### ACCEPT -/

/-- R106, check 1: no offer to master `m` stands under this handle. -/
def State.noOffer (s : State) (m : Fin 8) (h : Word) : Bool :=
  let l := s.lease (handleLease h)
  l.state == .free || l.generation != handleGeneration h || l.offerTarget != some m

/-- R106: the first check that fails, with its result items. -/
def State.acceptRefusal (s : State) (m : Fin 8) (h : Word) : Option (ResultCode × List Word) :=
  if s.noOffer m h then some (.noOffer, [])
  else match s.lowestForbidden (s.lease (handleLease h)).channels m with
  | some c => some (.notPermitted, [natWord c.val])
  | none =>
    if (s.master m).quota ≤ (s.master m).count then
      some (.quota, [natWord (s.master m).count, natWord (s.master m).quota])
    else none

/-- R107: the record under its new holder. -/
def Lease.acceptedBy (l : Lease) (m : Fin 8) : Lease :=
  { l with holder := some m, offerTarget := none, notices := NoticeKind.transferred.bit, noticeCount := l.noticeCount + 1 }

/-- R107: the lease moves to master `m`. -/
def State.acceptLease (s : State) (n : Fin 64) (m : Fin 8) : State :=
  let l := s.lease n
  (((s.leaveOffers (some m) n).setLease n (l.acceptedBy m)).lowerCount l.holder).raiseCount m

/-- R107: the result items of ACCEPT. -/
def State.acceptWords (s : State) (n : Fin 64) : List Word :=
  let l := s.lease n
  [s.handle n, l.state.code, l.channels, baseCode l.base] ++ stampWords l.expiry ++ [l.noticeCount]

/-- R106, R107. -/
def acceptOwner (m : Fin 8) (a : Args) (s : State) : Reply :=
  match s.acceptRefusal m a[0] with
  | some (code, items) => answer s code items
  | none =>
    let t := s.acceptLease (handleLease a[0]) m
    answer t .ok (t.acceptWords (handleLease a[0]))

/-- ACCEPT, command code 1Ah (R106); the scan follows the fall of the former holder's count (R107). -/
def acceptCommand (m : Fin 8) (w : Fin 2) (s : State) : State :=
  closeEvent s (takeCommand m w 0x001A never never (acceptOwner m) s)

def execAccept (m : Fin 8) (w : Fin 2) (s : State) : Host.Outcome State Fault Refusal := event (acceptCommand m w) s

/-! ### DECLINE -/

/-- R108. -/
def declineOwner (m : Fin 8) (a : Args) (s : State) : Reply :=
  if s.noOffer m a[0] then answer s .noOffer
  else answer ((s.endOffer (handleLease a[0])).raiseNotice (handleLease a[0]) .offerDeclined) .ok

/-- DECLINE, command code 1Bh (R108). -/
def declineCommand (m : Fin 8) (w : Fin 2) (s : State) : State := takeCommand m w 0x001B never never (declineOwner m) s

def execDecline (m : Fin 8) (w : Fin 2) (s : State) : Host.Outcome State Fault Refusal := event (declineCommand m w) s

/-! ### LIST_OFFERS -/

/-- R176: the byte of an entry: bits 2:0 the holder, bits 5:4 the state. -/
def State.offerByte (s : State) (n : Fin 64) : Word :=
  natWord (((s.lease n).holder.map (·.val)).getD 0) ||| ((s.lease n).state.code <<< 4)

/-- R109, R176: the result words for an offer list. The words of a position beyond the entries read 0. -/
def State.listOffersWords (s : State) (l : List (Fin 64)) : List Word :=
  let at' (f : Fin 64 → Word) (i : Nat) : Word := (l[i]?.map f).getD 0
  natWord l.length :: ((List.range 4).map (at' s.handle) ++ (List.range 4).map (at' fun n => (s.lease n).channels)
    ++ [at' s.offerByte 0 ||| (at' s.offerByte 1 <<< 8), at' s.offerByte 2 ||| (at' s.offerByte 3 <<< 8)])

/-- LIST_OFFERS, command code 34h (R109). -/
def listOffersCommand (m : Fin 8) (w : Fin 2) (s : State) : State :=
  takeCommand m w 0x0034 never never (fun _ s => answer s .ok (s.listOffersWords (s.offerList m))) s

def execListOffers (m : Fin 8) (w : Fin 2) (s : State) : Host.Outcome State Fault Refusal := event (listOffersCommand m w) s

end Sys2Proof.Machine
end

