-- ==== Sys2Proof/Machine/Holding.lean ====
section
/-! DEFINITION. RENEW, SET_TERM, SET_OPTIONS, ADD_CHANNELS and DROP_CHANNELS (chapter 4). -/

namespace Sys2Proof.Machine

/-! ### RENEW -/

/-- R67: the result items of a renewal of lease `n`. -/
def State.renewWords (s : State) (n : Fin 64) : List Word :=
  stampWords (s.lease n).expiry ++ ticksWords (s.lease n).term ++ [(s.lease n).renewals]

/-- R67, R68: the last renewal stamp of a RENEW is the present value of the lease's base. -/
def renewOwner (m : Fin 8) (a : Args) (s : State) : Reply :=
  s.onLease m a[0] true true fun n =>
    let t := s.renewLease n (s.now (s.lease n).base)
    answer t .ok (t.renewWords n)

/-- RENEW, command code 11h (R67). -/
def renewCommand (m : Fin 8) (w : Fin 2) (s : State) : State := takeCommand m w 0x0011 never never (renewOwner m) s

def execRenew (m : Fin 8) (w : Fin 2) (s : State) : Host.Outcome State Fault Refusal := event (renewCommand m w) s

/-! ### SET_TERM -/

/-- R70: the staged term that a term word leaves. -/
def stagedBy (term : Ticks) : Option Ticks := if term = 0 then none else some term

/-- R70: the result items of SET_TERM on lease `n`. -/
def State.termWords (s : State) (n : Fin 64) : List Word :=
  ticksWords (s.lease n).term ++ ticksWords ((s.lease n).stagedTerm.getD 0) ++ [bitWord (s.lease n).stagedTerm.isSome]

/-- R70. -/
def setTermOwner (m : Fin 8) (a : Args) (s : State) : Reply :=
  s.onLease m a[0] true true fun n =>
    let t := s.setLease n { s.lease n with stagedTerm := stagedBy (ticksOfWords a[1] a[2]) }
    answer t .ok (t.termWords n)

/-- SET_TERM, command code 12h (R70). -/
def setTermCommand (m : Fin 8) (w : Fin 2) (s : State) : State := takeCommand m w 0x0012 never never (setTermOwner m) s

def execSetTerm (m : Fin 8) (w : Fin 2) (s : State) : Host.Outcome State Fault Refusal := event (setTermCommand m w) s

/-! ### SET_OPTIONS -/

/-- R72: what the port refuses BAD_ARGUMENT. An option that is not selected is not examined. -/
def setOptionsBad (a : Args) : Bool :=
  a[1].extractLsb' 0 4 == 0 || (a[1].getLsbD 1 && (graceActionOfWord a[3]).isNone) || (a[1].getLsbD 2 && 7 < a[4].toNat)
  || (a[1].getLsbD 3 && (onOffOfWord a[5]).isNone)

/-- R73: each selected option is set. -/
def Lease.withOptions (l : Lease) (a : Args) : Lease :=
  { l with
    grace := if a[1].getLsbD 0 then a[2] else l.grace
    graceAction := if a[1].getLsbD 1 then (graceActionOfWord a[3]).getD l.graceAction else l.graceAction
    urgency := if a[1].getLsbD 2 then urgencyOfWord a[4] else l.urgency
    boundaryNotices := if a[1].getLsbD 3 then (onOffOfWord a[5]).getD l.boundaryNotices else l.boundaryNotices }

/-- R72: the result items of SET_OPTIONS on lease `n`. -/
def State.optionWords (s : State) (n : Fin 64) : List Word :=
  [(s.lease n).grace, (s.lease n).graceAction.code, (s.lease n).urgency.setWidth 16, bitWord (s.lease n).boundaryNotices]

/-- R72, R73. -/
def setOptionsOwner (m : Fin 8) (a : Args) (s : State) : Reply :=
  s.onLease m a[0] true true fun n =>
    let t := s.setLease n ((s.lease n).withOptions a)
    answer t .ok (t.optionWords n)

/-- SET_OPTIONS, command code 13h (R72). -/
def setOptionsCommand (m : Fin 8) (w : Fin 2) (s : State) : State :=
  takeCommand m w 0x0013 never setOptionsBad (setOptionsOwner m) s

def execSetOptions (m : Fin 8) (w : Fin 2) (s : State) : Host.Outcome State Fault Refusal := event (setOptionsCommand m w) s

/-! ### ADD_CHANNELS -/

/-- R74: the first check that fails, with its result items. -/
def State.addRefusal (s : State) (m : Fin 8) (set : ChannelSet) : Option (ResultCode × List Word) :=
  if set = 0 then some (.badArgument, [])
  else match s.lowestForbidden set m with
  | some c => some (.notPermitted, [natWord c.val])
  | none =>
    match lowestIn set (s.ownGoverned m) with
    | some c => some (.ownConflict, [natWord c.val, match s.governor c with | some (n, _) => s.handle n | none => 0])
    | none =>
      match lowestIn set fun c => (s.channel c).state != .idle with
      | some c => some (.channelBusy, [natWord c.val, (s.channel c).state.code])
      | none => (lowestIn set s.isReserved).map fun c => (.channelReserved, [natWord c.val, natWord (s.waitingFor c)])

/-- R74, R75. -/
def addChannelsOwner (m : Fin 8) (a : Args) (s : State) : Reply :=
  s.onLease m a[0] true true fun n =>
    match s.addRefusal m a[1] with
    | some (code, items) => answer s code items
    | none =>
      let l := s.lease n
      answer ((s.setLease n { l with channels := l.channels ||| a[1] }).governChannels a[1] n) .ok [l.channels ||| a[1]]

/-- ADD_CHANNELS, command code 14h (R74). -/
def addChannelsCommand (m : Fin 8) (w : Fin 2) (s : State) : State :=
  takeCommand m w 0x0014 never never (addChannelsOwner m) s

def execAddChannels (m : Fin 8) (w : Fin 2) (s : State) : Host.Outcome State Fault Refusal := event (addChannelsCommand m w) s

/-! ### DROP_CHANNELS -/

/-- R76: the first check that fails, with its result items. -/
def dropRefusal (own set : ChannelSet) : Option (ResultCode × List Word) :=
  if set = 0 then some (.badArgument, [])
  else match lowestIn set fun c => !own.getLsbD c.val with
  | some c => some (.wrongState, [natWord c.val])
  | none => if own &&& ~~~set = 0 then some (.wrongState, [own]) else none

/-- R76, R77. -/
def dropChannelsOwner (m : Fin 8) (a : Args) (s : State) : Reply :=
  s.onLease m a[0] true true fun n =>
    let l := s.lease n
    match dropRefusal l.channels a[1] with
    | some (code, items) => answer s code items
    | none =>
      answer ((s.releaseChannels a[1]).setLease n { l with channels := l.channels &&& ~~~a[1] }) .ok [l.channels &&& ~~~a[1]]

/-- DROP_CHANNELS, command code 15h (R76); the scan follows where a channel reached IDLE (R77). -/
def dropChannelsCommand (m : Fin 8) (w : Fin 2) (s : State) : State :=
  closeEvent s (takeCommand m w 0x0015 never never (dropChannelsOwner m) s)

def execDropChannels (m : Fin 8) (w : Fin 2) (s : State) : Host.Outcome State Fault Refusal := event (dropChannelsCommand m w) s

end Sys2Proof.Machine
end

