-- ==== Sys2Proof/Machine/Lines.lean ====
section
/-! DEFINITION. CONFIG_LINE, QUERY_LINE and the edges of the renew lines (chapter 4, section 4.5). -/

namespace Sys2Proof.Machine

/-! ### CONFIG_LINE -/

/-- R83: what the port refuses. -/
def configLineBad (a : Args) : Bool := 7 < a[0].toNat || (edgeSettingOfWord a[1]).isNone

/-- R83: the LINE_BUSY refusal of a line, with the bound handle or the arrival number of the claim that names it. -/
def State.lineRefusal (s : State) (k : Fin 8) : Option (ResultCode × List Word) :=
  match (s.line k).bound with
  | some n => some (.lineBusy, [s.handle n])
  | none => (s.claimOnLine k).map fun q => (.lineBusy, [q.arrival])

/-- R83. -/
def configLineOwner (a : Args) (s : State) : Reply :=
  let k := eightOfWord a[0]
  match s.lineRefusal k with
  | some (code, items) => answer s code items
  | none => answer (s.setLine k { s.line k with edge := (edgeSettingOfWord a[1]).getD .off }) .ok

/-- CONFIG_LINE, command code 60h (R83). -/
def configLineCommand (m : Fin 8) (w : Fin 2) (s : State) : State :=
  takeCommand m w 0x0060 always configLineBad configLineOwner s

def execConfigLine (m : Fin 8) (w : Fin 2) (s : State) : Host.Outcome State Fault Refusal := event (configLineCommand m w) s

/-! ### QUERY_LINE -/

/-- R84, R173: the edge setting; whether bound, the handle and the holder (0 where unbound); the last edge stamp; the number of
claims naming the line; the level of the pin (log 15). -/
def State.queryLineWords (s : State) (k : Fin 8) : List Word :=
  let l := s.line k
  [l.edge.code, bitWord l.bound.isSome, (l.bound.map s.handle).getD 0,
   natWord (((l.bound.bind fun n => (s.lease n).holder).map (·.val)).getD 0)]
  ++ stampWords l.lastEdge ++ [natWord (s.claims.countP fun q => q.line == some k), bitWord l.level]

/-- QUERY_LINE, command code 33h (R84). -/
def queryLineCommand (m : Fin 8) (w : Fin 2) (s : State) : State :=
  takeCommand m w 0x0033 never (fun a => 7 < a[0].toNat) (fun a s => answer s .ok (s.queryLineWords (eightOfWord a[0]))) s

def execQueryLine (m : Fin 8) (w : Fin 2) (s : State) : Host.Outcome State Fault Refusal := event (queryLineCommand m w) s

/-! ### Edges on a renew line -/

/-- R80: the edge matches the line's edge setting. -/
def EdgeSetting.detects (e : EdgeSetting) (rising : Bool) : Bool :=
  match e with
  | .off => false
  | .rising => rising
  | .falling => !rising
  | .both => true

/-- R80: an edge arrives at the pin; if it is detected, the line captures the values of both bases (R178). -/
def State.edgeArrives (s : State) (k : Fin 8) (rising : Bool) : State :=
  let l := s.line k
  let captured := if l.edge.detects rising then l.captured ++ [{ stampA := s.baseA.counter, stampB := s.baseB.counter }] else l.captured
  s.setLine k { l with level := rising, captured := captured }

/-- The captured value for a base (R81). -/
def Capture.stamp (x : Capture) : Base → Stamp
  | .a => x.stampA
  | .b => x.stampB

/-- R80, R81: the oldest captured edge of the line is taken. The lease of a bound line is live (R82). -/
def State.edgeTaken (s : State) (k : Fin 8) : State :=
  match (s.line k).captured with
  | [] => s
  | x :: rest =>
    let t := s.setLine k { s.line k with captured := rest, lastEdge := x.stampA }
    match (s.line k).bound with
    | some n => if (s.lease n).live then t.renewLease n (x.stamp (s.lease n).base) else t
    | none => t

/-- R80: the part of an edge's life that the row names. -/
def State.lineEdge (s : State) (k : Fin 8) (rising : Bool) (phase : EdgePhase) : State :=
  match phase with
  | .arrives => s.edgeArrives k rising
  | .isTaken => s.edgeTaken k
  | .arrivesAndIsTaken =>
    if (s.line k).edge.detects rising then (s.edgeArrives k rising).edgeTaken k else s.edgeArrives k rising

/-- R177: while RESET_N is asserted no edge is detected; the pin's level follows all the same. -/
def State.edgeInReset (s : State) (k : Fin 8) (rising : Bool) (phase : EdgePhase) : State :=
  if phase = .isTaken then s else s.setLine k { s.line k with level := rising }

/-- RENEW_LINE_EDGE (R80). -/
def execRenewLineEdge (k : Fin 8) (rising : Bool) (phase : EdgePhase) (s : State) : Host.Outcome State Fault Refusal :=
  if s.resetAsserted then .next (s.edgeInReset k rising phase) else event (fun t => t.lineEdge k rising phase) s

end Sys2Proof.Machine
end

