-- ==== Sys2Proof/Machine/Masters.lean ====
section
/-! DEFINITION. CONFIG_MASTER, in both forms, and DISABLE_MASTER (chapter 10). -/

namespace Sys2Proof.Machine

/-! ### CONFIG_MASTER -/

/-- R169: the form of argument word 0 is SUPERVISOR, which is reserved to master 0. -/
def configMasterReserved (a : Args) : Bool := a[0] == 0

/-- R169: what the port refuses in the SUPERVISOR form. -/
def supervisorFormBad (a : Args) : Bool :=
  7 < a[1].toNat || (onOffOfWord a[2]).isNone || 64 < a[3].toNat || 7 < a[4].toNat || (onOffOfWord a[5]).isNone

/-- R169: what the port refuses in the SELF form. -/
def selfFormBad (a : Args) : Bool := 7 < a[1].toNat || (onOffOfWord a[2]).isNone

/-- R169: a form that names neither is refused BAD_ARGUMENT. -/
def configMasterBad (a : Args) : Bool :=
  if a[0] = 0 then supervisorFormBad a else if a[0] = 1 then selfFormBad a else true

/-- R169: the record as result items. -/
def Master.words (x : Master) : List Word :=
  [bitWord x.enabled, x.role.code, natWord x.quota, natWord x.count, x.completionUrgency.setWidth 16, bitWord x.interruptEnable]

/-- R169: the SUPERVISOR form writes its fields; enable KEEP 0 leaves the enable, ENABLE 1 makes it yes. -/
def Master.configured (x : Master) (a : Args) : Master :=
  { x with enabled := x.enabled || a[2] == 1, quota := a[3].toNat, completionUrgency := urgencyOfWord a[4],
           interruptEnable := a[5] == 1 }

/-- R169: the SELF form writes its fields. -/
def Master.selfConfigured (x : Master) (a : Args) : Master :=
  { x with completionUrgency := urgencyOfWord a[1], interruptEnable := a[2] == 1 }

/-- R169: the SUPERVISOR form. -/
def configMasterSupervisorOwner (a : Args) (s : State) : Reply :=
  let target := eightOfWord a[1]
  let x := (s.master target).configured a
  answer (s.setMaster target x) .ok x.words

/-- R169: the SELF form. -/
def configMasterSelfOwner (m : Fin 8) (a : Args) (s : State) : Reply :=
  let x := (s.master m).selfConfigured a
  answer (s.setMaster m x) .ok x.words

/-- CONFIG_MASTER, command code 70h (R169), with the form of argument word 0; the scan follows a rise of quota or an enabling. -/
def configMasterCommand (m : Fin 8) (w : Fin 2) (s : State) : State :=
  closeEvent s (takeCommand m w 0x0070 configMasterReserved configMasterBad
    (fun a s => if a[0] = 0 then configMasterSupervisorOwner a s else configMasterSelfOwner m a s) s)

/-- The row CONFIG_MASTER_SUPERVISOR. The form is that of argument word 0 (log 1, log 14). -/
def execConfigMasterSupervisor (m : Fin 8) (w : Fin 2) (s : State) : Host.Outcome State Fault Refusal :=
  event (configMasterCommand m w) s

/-- The row CONFIG_MASTER_SELF. The form is that of argument word 0 (log 1, log 14). -/
def execConfigMasterSelf (m : Fin 8) (w : Fin 2) (s : State) : Host.Outcome State Fault Refusal :=
  event (configMasterCommand m w) s

/-! ### DISABLE_MASTER -/

/-- R170: what the port refuses. -/
def disableMasterBad (a : Args) : Bool := a[0] == 0 || 7 < a[0].toNat

/-- R96: every lease of master `t` is freed. -/
def State.freeLeasesOf (s : State) (t : Fin 8) : State :=
  (List.finRange 64).foldl (fun u n => if (u.lease n).holder = some t then u.freeLease n else u) s

/-- R97: every offer whose target is master `t` is withdrawn, and the list becomes empty. -/
def State.withdrawOffersTo (s : State) (t : Fin 8) : State :=
  ((s.offerList t).foldl (fun u n => u.setLease n { u.lease n with offerTarget := none }) s).setOfferList t []

/-- R170: both windows of master `t` become as a window reset leaves them. -/
def State.resetWindowsOf (s : State) (t : Fin 8) : State := (s.setWindow t 0 .rest).setWindow t 1 .rest

/-- R170: the enable becomes no and the count 0. -/
def Master.disabled (x : Master) : Master := { x with enabled := false, count := 0 }

/-- R170, R96, R97, R63: the disable of master `t`. -/
def State.disableMaster (s : State) (t : Fin 8) : State :=
  let u := (((s.freeLeasesOf t).withdrawOffersTo t).removeClaims (fun q => q.master == t)).resetWindowsOf t
  u.setMaster t (u.master t).disabled

/-- R170: the numbers of records freed, claims removed and offers withdrawn. -/
def State.disableWords (s : State) (t : Fin 8) : List Word :=
  [natWord ((List.finRange 64).countP fun n => (s.lease n).holder == some t),
   natWord (s.claims.countP fun q => q.master == t), natWord (s.offerList t).length]

/-- R170. -/
def disableMasterOwner (a : Args) (s : State) : Reply :=
  let t := eightOfWord a[0]
  if (s.master t).enabled then answer (s.disableMaster t) .ok (s.disableWords t) else answer s .wrongState

/-- DISABLE_MASTER, command code 71h (R170); the scan follows. -/
def disableMasterCommand (m : Fin 8) (w : Fin 2) (s : State) : State :=
  closeEvent s (takeCommand m w 0x0071 always disableMasterBad disableMasterOwner s)

def execDisableMaster (m : Fin 8) (w : Fin 2) (s : State) : Host.Outcome State Fault Refusal := event (disableMasterCommand m w) s

end Sys2Proof.Machine
end

