-- ==== Sys2Proof/Machine/Flags.lean ====
section
/-! DEFINITION. The flags and pins that follow from the state: the status word, bus reads, the candidates and presented item of each
master's interrupt line, the INT pins and the output pins. -/

namespace Sys2Proof.Machine

/-! ### Bus reads (R160, R172) -/

/-- The status word of window `w` as master `m` reads it (R172). -/
def State.statusWord (s : State) (m : Fin 8) (w : Fin 2) : Word :=
  let x := s.window m w
  x.state.code ||| (bitWord x.collision <<< 2) ||| (bitWord x.abortNotTaken <<< 3) ||| (bitWord x.completionPending <<< 4)
  ||| (bitWord (s.master m).enabled <<< 5)

/-- What a read of a word address by master `m` returns (R160, R172, R177). Reads change nothing. -/
def State.busRead (s : State) (m : Fin 8) (address : BitVec 6) : Word :=
  if s.resetAsserted then 0
  else
    let w : Fin 2 := if address.getLsbD 5 then 1 else 0
    let x := s.window m w
    let offset := (address.extractLsb' 0 5).toNat
    if h : offset < 8 then x.args[offset]
    else if offset = 8 then x.command
    else if offset = 9 then 0
    else if offset = 10 then s.statusWord m w
    else if offset = 11 then resultCodeWord x.code
    else if h : offset < 24 then x.words[offset - 12]
    else 0

/-! ### Candidates and presentation (R154, R155) -/

/-- What an interrupt line may stand for. -/
inductive Item where
  | device
  | window (w : Fin 2)
  | lease (n : Fin 64)
  deriving DecidableEq, Repr

/-- R154: a window is a candidate of its master. -/
def State.windowCandidate (s : State) (m : Fin 8) (w : Fin 2) : Bool :=
  (s.window m w).completionPending && (s.master m).completionUrgency != 0

/-- R154: a lease is a candidate of its holder. -/
def State.leaseCandidate (s : State) (m : Fin 8) (n : Fin 64) : Bool :=
  (s.lease n).state != .free && (s.lease n).holder == some m && (s.lease n).notices != 0 && (s.lease n).urgency != 0

/-- R154: the candidates of master `m`, in the tie order of R155, each with its urgency. -/
def State.candidates (s : State) (m : Fin 8) : List (Item × Nat) :=
  (if m = 0 ∧ s.deviceNotice = .baseBStalled then [(Item.device, 7)] else [])
  ++ (if s.windowCandidate m 0 then [(Item.window 0, (s.master m).completionUrgency.toNat)] else [])
  ++ (if s.windowCandidate m 1 then [(Item.window 1, (s.master m).completionUrgency.toNat)] else [])
  ++ ((List.finRange 64).filter fun n => s.leaseCandidate m n).map fun n => (Item.lease n, (s.lease n).urgency.toNat)

/-- The first of the highest urgency. -/
def firstHighest : List (Item × Nat) → Option (Item × Nat)
  | [] => none
  | c :: cs =>
    match firstHighest cs with
    | none => some c
    | some d => if c.2 < d.2 then some d else some c

/-- R155: the presented item of master `m`, with its urgency. -/
def State.presented (s : State) (m : Fin 8) : Option (Item × Nat) := firstHighest (s.candidates m)

/-- R156, R177: the level of master `m`'s INT pin, true when asserted. -/
def State.intPin (s : State) (m : Fin 8) : Bool :=
  !s.resetAsserted && (s.master m).interruptEnable && !(s.candidates m).isEmpty

/-! ### Output pins (R121, R122) -/

/-- What an output pin does. -/
inductive PinLevel where
  | low
  | high
  | released
  deriving DecidableEq, Repr

/-- R121: showing the safe level. -/
def SafeLevel.pin : SafeLevel → PinLevel
  | .low => .low
  | .high => .high
  | .openLevel => .released

/-- R121: showing the flip-flop through polarity and drive. -/
def ChannelConfig.shown (g : ChannelConfig) (flipFlop : Bool) : PinLevel :=
  let value := if g.polarity = .inverted then !flipFlop else flipFlop
  if value then (if g.drive = .openDrain then .released else .high) else .low

/-- R121: the pin of a channel. -/
def Channel.pin (ch : Channel) : PinLevel :=
  if ch.state = .active ∨ ch.state = .draining then ch.config.shown ch.wave.flipFlop else ch.config.safeLevel.pin

/-- R121, R177: the level of the output pin of channel `c`. -/
def State.outPin (s : State) (c : Fin 16) : PinLevel :=
  if s.resetAsserted then .released else (s.channel c).pin

end Sys2Proof.Machine
end

