-- ==== Sys2Proof/Machine/Notices.lean ====
section
/-! DEFINITION. NEXT_NOTICE, ACK_NOTICES and ACK_DEVICE (chapter 9). -/

namespace Sys2Proof.Machine

/-! ### NEXT_NOTICE -/

/-- R157, section 11.3: the result items for a presented item, from its type on. Items of the other types read 0 (R173). -/
def State.presentedWords (s : State) (m : Fin 8) : Option (Item × Nat) → List Word
  | none => [0, 0]
  | some (.device, u) => [1, natWord u, s.deviceNotice.code]
  | some (.window w, u) => [2, natWord u, 0, natWord w.val, resultCodeWord (s.window m w).code]
  | some (.lease n, u) =>
    [3, natWord u, 0, 0, 0, s.handle n, (s.lease n).state.code, kindsWord (s.lease n).notices, (s.lease n).noticeCount]

/-- R157: the result words of NEXT_NOTICE. -/
def State.nextNoticeWords (s : State) (m : Fin 8) : List Word :=
  natWord (s.candidates m).length :: s.presentedWords m (s.presented m)

/-- NEXT_NOTICE, command code 40h (R157). The window's own flag was cleared when the command was taken. -/
def nextNoticeCommand (m : Fin 8) (w : Fin 2) (s : State) : State :=
  takeCommand m w 0x0040 never never (fun _ s => answer s .ok (s.nextNoticeWords m)) s

def execNextNotice (m : Fin 8) (w : Fin 2) (s : State) : Host.Outcome State Fault Refusal := event (nextNoticeCommand m w) s

/-! ### ACK_NOTICES -/

/-- R151, section 11.3: the kinds word names something other than the six kinds. -/
def ackNoticesBad (a : Args) : Bool := a[1].extractLsb' 6 10 != 0

/-- R151, R152: the notice set and notice count, as the result items. -/
def Lease.noticeWords (l : Lease) : List Word := [kindsWord l.notices, l.noticeCount]

/-- R152: the kinds named leave the set. -/
def Lease.acknowledge (l : Lease) (kinds : KindSet) : Lease := { l with notices := l.notices &&& ~~~kinds }

/-- R151, R152. -/
def ackNoticesOwner (m : Fin 8) (a : Args) (s : State) : Reply :=
  s.onLease m a[0] true false fun n =>
    let l := s.lease n
    if l.noticeCount = a[2] then
      let acked := l.acknowledge (a[1].extractLsb' 0 6)
      answer (s.setLease n acked) .ok acked.noticeWords
    else answer s .staleNotice l.noticeWords

/-- ACK_NOTICES, command code 41h (R151). -/
def ackNoticesCommand (m : Fin 8) (w : Fin 2) (s : State) : State :=
  takeCommand m w 0x0041 never ackNoticesBad (ackNoticesOwner m) s

def execAckNotices (m : Fin 8) (w : Fin 2) (s : State) : Host.Outcome State Fault Refusal := event (ackNoticesCommand m w) s

/-! ### ACK_DEVICE -/

/-- ACK_DEVICE, command code 42h (R150). -/
def ackDeviceCommand (m : Fin 8) (w : Fin 2) (s : State) : State :=
  takeCommand m w 0x0042 always never
    (fun _ s => answer { s with deviceNotice := .none } .ok [s.deviceNotice.code]) s

def execAckDevice (m : Fin 8) (w : Fin 2) (s : State) : Host.Outcome State Fault Refusal := event (ackDeviceCommand m w) s

end Sys2Proof.Machine
end

