-- ==== Sys2Proof/Machine/Table.lean ====
section
/-! DEFINITION. QUERY_LEASE, FIND_CHANNEL and RESET_TABLE (chapter 1). -/

namespace Sys2Proof.Machine

/-! ### QUERY_LEASE -/

/-- R17: view STANDING 0, TIMING 1. -/
def queryLeaseBad (a : Args) : Bool := (onOffOfWord a[1]).isNone

/-- R18, R176: the STANDING view of record `n`. -/
def State.standingWords (s : State) (n : Fin 64) : List Word :=
  let l := s.lease n
  [s.handle n,
   l.state.code ||| (baseCode l.base <<< 4) ||| (l.graceAction.code <<< 5) ||| (bitWord l.boundaryNotices <<< 6)
     ||| (l.urgency.setWidth 16 <<< 8) ||| (endReasonCode l.endReason <<< 12),
   presentEight l.holder, l.channels, l.grace, presentEight l.line, presentEight l.offerTarget, kindsWord l.notices,
   l.noticeCount, l.renewals]

/-- R19, R176: the TIMING view of record `n`. -/
def State.timingWords (s : State) (n : Fin 64) : List Word :=
  let l := s.lease n
  [s.handle n, l.state.code ||| (baseCode l.base <<< 4) ||| (bitWord l.stagedTerm.isSome <<< 15)]
  ++ ticksWords l.term ++ ticksWords (l.stagedTerm.getD 0) ++ stampWords l.expiry ++ stampWords l.lastRenewal
  ++ stampWords (s.now l.base)

/-- R17: with generation 0 no handle check is made; otherwise the STALE_HANDLE check alone. -/
def queryLeaseOwner (m : Fin 8) (a : Args) (s : State) : Reply :=
  let words := if a[1] = 0 then s.standingWords (handleLease a[0]) else s.timingWords (handleLease a[0])
  if handleGeneration a[0] = 0 then answer s .ok words
  else s.onLease m a[0] false false fun _ => answer s .ok words

/-- QUERY_LEASE, command code 30h (R17). -/
def queryLeaseCommand (m : Fin 8) (w : Fin 2) (s : State) : State :=
  takeCommand m w 0x0030 never queryLeaseBad (queryLeaseOwner m) s

def execQueryLease (m : Fin 8) (w : Fin 2) (s : State) : Host.Outcome State Fault Refusal := event (queryLeaseCommand m w) s

/-! ### FIND_CHANNEL -/

/-- R20: the result items for channel `c`; the handle and the holder carry their presence in bit 15 (R173). -/
def State.findChannelWords (s : State) (c : Fin 16) : List Word :=
  [(s.channel c).state.code, presentWord ((s.governor c).map fun g => s.handle g.1),
   presentEight ((s.governor c).bind fun g => g.2.holder), natWord (s.waitingFor c)]

/-- FIND_CHANNEL, command code 31h (R20). -/
def findChannelCommand (m : Fin 8) (w : Fin 2) (s : State) : State :=
  takeCommand m w 0x0031 never (fun a => 15 < a[0].toNat)
    (fun a s => answer s .ok (s.findChannelWords (channelOfWord a[0]))) s

def execFindChannel (m : Fin 8) (w : Fin 2) (s : State) : Host.Outcome State Fault Refusal := event (findChannelCommand m w) s

/-! ### RESET_TABLE -/

/-- R23: a window that waits, in the grant queue or for its drain, completes ABORTED, late. -/
def Window.endWait (x : Window) (inQueue : Bool) : Window :=
  if inQueue || x.drainSet != 0 then x.completeLate .aborted [] else x

/-- R21 to R23: the table reset, apart from the completion of the window that issued it. -/
def State.resetTable (s : State) : State :=
  let ended := s.mapWindows fun m w x => x.endWait (s.claims.any fun q => q.isIn m w)
  { ended with
    leases := tabulate (fun n => .rest (s.lease n).generation)
    offers := Vector.replicate 8 []
    masters := tabulate (fun m => { s.master m with count := 0 })
    expiryA := []
    expiryB := []
    claims := []
    channels := tabulate (fun c => (s.channel c).enterIdle)
    lines := tabulate (fun k => { s.line k with bound := none }) }

/-- RESET_TABLE, command code 3Fh (R21). No scan follows, since the queue is empty (R23). -/
def resetTableCommand (m : Fin 8) (w : Fin 2) (s : State) : State :=
  takeCommand m w 0x003F always never (fun _ s => answer s.resetTable .ok) s

def execResetTable (m : Fin 8) (w : Fin 2) (s : State) : Host.Outcome State Fault Refusal := event (resetTableCommand m w) s

end Sys2Proof.Machine
end

