-- ==== Sys2Proof/Machine/Time.lean ====
section
/-! DEFINITION. READ_TIME, SET_PRESCALER, SET_BASE_B, START_BASE_B and STOP_BASE_B (chapter 2). -/

namespace Sys2Proof.Machine

/-! ### READ_TIME -/

/-- R37, R176: the result words. The divisors reported are those last set (log 8). -/
def State.timeWords (s : State) : List Word :=
  stampWords s.baseA.counter ++ stampWords s.baseB.counter
  ++ [s.baseB.state.code ||| (bitWord s.freeze <<< 4) ||| (bitWord s.frozenA <<< 5) ||| (bitWord s.frozenB <<< 6)
        ||| (bitWord s.baseA.honourFreeze <<< 8) ||| (bitWord s.baseB.honourFreeze <<< 9),
      s.baseA.divisor, s.baseB.divisor, s.baseB.stallLimit, s.baseB.stallWatch,
      natWord s.expiryA.length, natWord s.expiryB.length]

/-- READ_TIME, command code 50h (R37). -/
def readTimeCommand (m : Fin 8) (w : Fin 2) (s : State) : State :=
  takeCommand m w 0x0050 never never (fun _ s => answer s .ok s.timeWords) s

def execReadTime (m : Fin 8) (w : Fin 2) (s : State) : Host.Outcome State Fault Refusal := event (readTimeCommand m w) s

/-! ### SET_PRESCALER -/

/-- R28: what the port refuses. -/
def setPrescalerBad (a : Args) : Bool := a[0] == 0 || 4096 < a[0].toNat || (onOffOfWord a[1]).isNone

/-- R28: the divisor in use stays until the next advance (log 7); the honour-freeze setting applies at once. -/
def State.setPrescaler (s : State) (divisor : Word) (honour : Bool) : State :=
  { s with baseA := { s.baseA with divisor := divisor, honourFreeze := honour } }

/-- SET_PRESCALER, command code 51h (R28). -/
def setPrescalerCommand (m : Fin 8) (w : Fin 2) (s : State) : State :=
  takeCommand m w 0x0051 always setPrescalerBad (fun a s => answer (s.setPrescaler a[0] (a[1] == 1)) .ok) s

def execSetPrescaler (m : Fin 8) (w : Fin 2) (s : State) : Host.Outcome State Fault Refusal := event (setPrescalerCommand m w) s

/-! ### SET_BASE_B -/

/-- R32: what the port refuses. -/
def setBaseBBad (a : Args) : Bool := a[0] == 0 || 256 < a[0].toNat || (onOffOfWord a[2]).isNone

/-- R30, R32: the stall watch after SET_BASE_B. It restarts unless base B is frozen before and after; a limit of 0 holds it at 0
(log 9). -/
def watchAfterSet (limit watch : Word) (frozenThroughout : Bool) : Word :=
  if limit = 0 then 0 else if frozenThroughout then watch else 0

/-- R32: the divisor in use stays until the next advance (log 7). -/
def State.setBaseB (s : State) (divisor limit : Word) (honour : Bool) : State :=
  { s with baseB := { s.baseB with
      divisor := divisor, stallLimit := limit, honourFreeze := honour,
      stallWatch := watchAfterSet limit s.baseB.stallWatch (s.frozenB && honour) } }

/-- SET_BASE_B, command code 52h (R32). -/
def setBaseBCommand (m : Fin 8) (w : Fin 2) (s : State) : State :=
  takeCommand m w 0x0052 always setBaseBBad (fun a s => answer (s.setBaseB a[0] a[1] (a[2] == 1)) .ok) s

def execSetBaseB (m : Fin 8) (w : Fin 2) (s : State) : Host.Outcome State Fault Refusal := event (setBaseBCommand m w) s

/-! ### START_BASE_B and STOP_BASE_B -/

/-- R33: base B passes to RUNNING, and the device notice is cleared. -/
def State.startBaseB (s : State) : State :=
  { s with
    baseB := { s.baseB with state := .running, edgeCount := 0, stallWatch := 0 }
    deviceNotice := .none }

/-- R33. -/
def startBaseBOwner (_ : Args) (s : State) : Reply :=
  if s.baseB.state = .running then answer s .wrongState else answer s.startBaseB .ok

/-- START_BASE_B, command code 53h (R33). -/
def startBaseBCommand (m : Fin 8) (w : Fin 2) (s : State) : State := takeCommand m w 0x0053 always never startBaseBOwner s

def execStartBaseB (m : Fin 8) (w : Fin 2) (s : State) : Host.Outcome State Fault Refusal := event (startBaseBCommand m w) s

/-- R34: the number of HELD and GRACE leases on base B. -/
def State.liveOnB (s : State) : Nat := (List.finRange 64).countP fun n => (s.lease n).live && (s.lease n).base == .b

/-- R34: the number of waiting claims on base B. -/
def State.waitingOnB (s : State) : Nat := s.claims.countP fun q => q.base == .b

/-- R34: base B passes to STOPPED. -/
def State.stopBaseB (s : State) : State :=
  { s with baseB := { s.baseB with state := .stopped, edgeCount := 0, stallWatch := 0 } }

/-- R34: both refusals report the two numbers. -/
def stopBaseBOwner (_ : Args) (s : State) : Reply :=
  if s.baseB.state ≠ .running ∨ s.liveOnB ≠ 0 ∨ s.waitingOnB ≠ 0 then
    answer s .wrongState [natWord s.liveOnB, natWord s.waitingOnB]
  else answer s.stopBaseB .ok

/-- STOP_BASE_B, command code 54h (R34). -/
def stopBaseBCommand (m : Fin 8) (w : Fin 2) (s : State) : State := takeCommand m w 0x0054 always never stopBaseBOwner s

def execStopBaseB (m : Fin 8) (w : Fin 2) (s : State) : Host.Outcome State Fault Refusal := event (stopBaseBCommand m w) s

end Sys2Proof.Machine
end

