-- ==== Sys2Proof/Machine/Waveforms.lean ====
section
/-! DEFINITION. SET_MODE, SET_LEVEL, ARM_SINGLE, STAGE_PERIODIC, RESTART_PERIODIC and FORCE (chapter 8). -/

namespace Sys2Proof.Machine

/-- R131, R176: the waveform report of channel `c`. -/
def State.waveformReport (s : State) (c : Fin 16) : List Word :=
  let v := (s.channel c).wave
  let pair := v.staged.getD (0, 0)
  [v.mode.code ||| (bitWord v.flipFlop <<< 4) ||| (bitWord v.level <<< 5) ||| (bitWord v.staged.isSome <<< 8)
     ||| (bitWord v.rise.isSome <<< 12) ||| (bitWord v.fall.isSome <<< 13),
   v.period, v.width, pair.1, pair.2, v.position]
  ++ stampWords (v.rise.getD 0) ++ stampWords (v.fall.getD 0) ++ stampWords s.baseA.counter

/-- R130, check 1: the channel number is above 15. -/
def channelBad (a : Args) : Bool := 15 < a[1].toNat

/-- R130: checks 2 to 4 of a waveform command and the report of R131. `modeCheck` is the refusal that the command's rule gives for
the channel's mode, and `act` its effect at the generator. -/
def waveformOwner (m : Fin 8) (modeCheck : Mode → Option ResultCode) (act : Fin 16 → State → State) (a : Args)
    (s : State) : Reply :=
  s.onLease m a[0] true true fun n =>
    let c := channelOfWord a[1]
    if (s.lease n).channels.getLsbD c.val then
      match modeCheck (s.channel c).wave.mode with
      | some code => answer s code [(s.channel c).wave.mode.code]
      | none => answer (act c s) .ok ((act c s).waveformReport c)
    else answer s .wrongState [(s.channel c).state.code]

/-- The waveform fields of channel `c` are changed. -/
def State.changeWave (s : State) (c : Fin 16) (f : Waveform → Waveform) : State :=
  s.setChannel c { s.channel c with wave := f (s.channel c).wave }

/-- The refusal WRONG_MODE outside one mode. -/
def onlyIn (mode : Mode) (present : Mode) : Option ResultCode := if present = mode then none else some .wrongMode

/-! ### SET_MODE -/

/-- R132: what the port refuses. -/
def setModeBad (a : Args) : Bool :=
  channelBad a || (modeOfWord a[2]).isNone || (a[2] == 2 && a[3].toNat < 2)

/-- R132: MODE_PATH straight between SINGLE and PERIODIC. -/
def modePath (named present : Mode) : Option ResultCode :=
  match present, named with
  | .single, .periodic => some .modePath
  | .periodic, .single => some .modePath
  | _, _ => none

/-- R133: the fields by the present mode and the named mode. -/
def Waveform.setMode (v : Waveform) (named : Mode) (period width : Word) : Waveform :=
  match v.mode, named with
  | .single, .level => { v with mode := .level, level := v.flipFlop, rise := none, fall := none }
  | .periodic, .level =>
    { v with mode := .level, level := v.flipFlop, period := 0, width := 0, staged := none, position := 0 }
  | .level, .single => { v with mode := .single, level := false, rise := none, fall := none }
  | .level, .periodic =>
    { v with mode := .periodic, level := false, period := period, width := width, staged := none, position := 0,
             flipFlop := width != 0 }
  | _, _ => v

/-- R132, R133. -/
def setModeOwner (m : Fin 8) (a : Args) (s : State) : Reply :=
  let named := (modeOfWord a[2]).getD .level
  waveformOwner m (modePath named) (fun c t => t.changeWave c fun v => v.setMode named a[3] a[4]) a s

/-- SET_MODE, command code 20h (R132). -/
def setModeCommand (m : Fin 8) (w : Fin 2) (s : State) : State := takeCommand m w 0x0020 never setModeBad (setModeOwner m) s

def execSetMode (m : Fin 8) (w : Fin 2) (s : State) : Host.Outcome State Fault Refusal := event (setModeCommand m w) s

/-! ### SET_LEVEL -/

/-- R134: what the port refuses. -/
def setLevelBad (a : Args) : Bool := channelBad a || (onOffOfWord a[2]).isNone

/-- R134: the level and the flip-flop both become the value. -/
def Waveform.setLevel (v : Waveform) (value : Bool) : Waveform := { v with level := value, flipFlop := value }

/-- R134. -/
def setLevelOwner (m : Fin 8) (a : Args) (s : State) : Reply :=
  waveformOwner m (onlyIn .level) (fun c t => t.changeWave c fun v => v.setLevel (a[2] == 1)) a s

/-- SET_LEVEL, command code 21h (R134). -/
def setLevelCommand (m : Fin 8) (w : Fin 2) (s : State) : State := takeCommand m w 0x0021 never setLevelBad (setLevelOwner m) s

def execSetLevel (m : Fin 8) (w : Fin 2) (s : State) : Host.Outcome State Fault Refusal := event (setLevelCommand m w) s

/-! ### ARM_SINGLE -/

/-- R135: what the port refuses. -/
def armSingleBad (a : Args) : Bool :=
  channelBad a || (selectorOfWord a[2]).isNone || (selectorOfWord a[5]).isNone || (a[2] == 0 && a[5] == 0)

/-- R135: a comparator set according to its selector. -/
def armBy (selector : Selector) (stamp : Stamp) (present : Option Stamp) : Option Stamp :=
  match selector with
  | .keep => present
  | .arm => some stamp
  | .disarm => none

/-- R135: the comparators are set, and each one this command armed matches at once if its stamp is reached. -/
def State.armSingle (s : State) (c : Fin 16) (rise : Selector) (riseStamp : Stamp) (fall : Selector) (fallStamp : Stamp) : State :=
  let t := s.changeWave c fun v => { v with rise := armBy rise riseStamp v.rise, fall := armBy fall fallStamp v.fall }
  t.matchComparators c (rise == .arm && reached riseStamp s.baseA.counter) (fall == .arm && reached fallStamp s.baseA.counter)

/-- R135, R136. -/
def armSingleOwner (m : Fin 8) (a : Args) (s : State) : Reply :=
  waveformOwner m (onlyIn .single)
    (fun c t => t.armSingle c ((selectorOfWord a[2]).getD .keep) (stampOfWords a[3] a[4])
      ((selectorOfWord a[5]).getD .keep) (stampOfWords a[6] a[7])) a s

/-- ARM_SINGLE, command code 22h (R135). -/
def armSingleCommand (m : Fin 8) (w : Fin 2) (s : State) : State :=
  takeCommand m w 0x0022 never armSingleBad (armSingleOwner m) s

def execArmSingle (m : Fin 8) (w : Fin 2) (s : State) : Host.Outcome State Fault Refusal := event (armSingleCommand m w) s

/-! ### STAGE_PERIODIC -/

/-- R140: what the port refuses. -/
def stagePeriodicBad (a : Args) : Bool := channelBad a || a[2] == 1

/-- R140: the staged pair that a period and a width leave. -/
def stagedPair (period width : Word) : Option (Word × Word) := if period = 0 then none else some (period, width)

/-- R140. -/
def stagePeriodicOwner (m : Fin 8) (a : Args) (s : State) : Reply :=
  waveformOwner m (onlyIn .periodic) (fun c t => t.changeWave c fun v => { v with staged := stagedPair a[2] a[3] }) a s

/-- STAGE_PERIODIC, command code 23h (R140). -/
def stagePeriodicCommand (m : Fin 8) (w : Fin 2) (s : State) : State :=
  takeCommand m w 0x0023 never stagePeriodicBad (stagePeriodicOwner m) s

def execStagePeriodic (m : Fin 8) (w : Fin 2) (s : State) : Host.Outcome State Fault Refusal := event (stagePeriodicCommand m w) s

/-! ### RESTART_PERIODIC -/

/-- R141. -/
def restartPeriodicOwner (m : Fin 8) (a : Args) (s : State) : Reply :=
  waveformOwner m (onlyIn .periodic) (fun c t => t.startPeriod c) a s

/-- RESTART_PERIODIC, command code 24h (R141). -/
def restartPeriodicCommand (m : Fin 8) (w : Fin 2) (s : State) : State :=
  takeCommand m w 0x0024 never channelBad (restartPeriodicOwner m) s

def execRestartPeriodic (m : Fin 8) (w : Fin 2) (s : State) : Host.Outcome State Fault Refusal :=
  event (restartPeriodicCommand m w) s

/-! ### FORCE -/

/-- R142: what the port refuses. -/
def forceBad (a : Args) : Bool := channelBad a || (onOffOfWord a[2]).isNone

/-- R142: WRONG_MODE in PERIODIC mode. -/
def forceMode (present : Mode) : Option ResultCode := if present = .periodic then some .wrongMode else none

/-- R142: the effect by the mode. -/
def Waveform.force (v : Waveform) (value : Bool) : Waveform :=
  match v.mode with
  | .level => { v with level := value, flipFlop := value }
  | .single => { v with flipFlop := value, rise := none, fall := none }
  | .periodic => v

/-- R142. -/
def forceOwner (m : Fin 8) (a : Args) (s : State) : Reply :=
  waveformOwner m forceMode (fun c t => t.changeWave c fun v => v.force (a[2] == 1)) a s

/-- FORCE, command code 25h (R142). -/
def forceCommand (m : Fin 8) (w : Fin 2) (s : State) : State := takeCommand m w 0x0025 never forceBad (forceOwner m) s

def execForce (m : Fin 8) (w : Fin 2) (s : State) : Host.Outcome State Fault Refusal := event (forceCommand m w) s

end Sys2Proof.Machine
end

