-- ==== Sys2Proof/Machine/Port.lean ====
section
/-! DEFINITION. The Command Port (chapter 10, R160 to R167): writes of words that are not a named command, and the window controls. -/

namespace Sys2Proof.Machine

/-! ### UNKNOWN_COMMAND and COMMAND_COLLISION -/

/-- R167, check 1: a command word that names no command is taken and refused UNKNOWN_COMMAND; a BUSY window discards it (R162). -/
def takeUnknown (m : Fin 8) (w : Fin 2) (word : Word) (s : State) : State :=
  let x := s.window m w
  if x.state = .busy then s.setWindow m w x.collide else s.setWindow m w ((x.take word).complete .unknownCommand [])

/-- R161, R172: a write of any word to the command word of window `w` of master `m`. -/
def writeCommandWord (m : Fin 8) (w : Fin 2) (word : Word) (s : State) : State :=
  if word = 0x10 then claimCommand m w s
  else if word = 0x11 then renewCommand m w s
  else if word = 0x12 then setTermCommand m w s
  else if word = 0x13 then setOptionsCommand m w s
  else if word = 0x14 then addChannelsCommand m w s
  else if word = 0x15 then dropChannelsCommand m w s
  else if word = 0x16 then releaseCommand m w s
  else if word = 0x17 then retireCommand m w s
  else if word = 0x18 then offerCommand m w s
  else if word = 0x19 then withdrawCommand m w s
  else if word = 0x1A then acceptCommand m w s
  else if word = 0x1B then declineCommand m w s
  else if word = 0x20 then setModeCommand m w s
  else if word = 0x21 then setLevelCommand m w s
  else if word = 0x22 then armSingleCommand m w s
  else if word = 0x23 then stagePeriodicCommand m w s
  else if word = 0x24 then restartPeriodicCommand m w s
  else if word = 0x25 then forceCommand m w s
  else if word = 0x30 then queryLeaseCommand m w s
  else if word = 0x31 then findChannelCommand m w s
  else if word = 0x32 then queryClaimsCommand m w s
  else if word = 0x33 then queryLineCommand m w s
  else if word = 0x34 then listOffersCommand m w s
  else if word = 0x3D then revokeCommand m w s
  else if word = 0x3E then purgeCommand m w s
  else if word = 0x3F then resetTableCommand m w s
  else if word = 0x40 then nextNoticeCommand m w s
  else if word = 0x41 then ackNoticesCommand m w s
  else if word = 0x42 then ackDeviceCommand m w s
  else if word = 0x50 then readTimeCommand m w s
  else if word = 0x51 then setPrescalerCommand m w s
  else if word = 0x52 then setBaseBCommand m w s
  else if word = 0x53 then startBaseBCommand m w s
  else if word = 0x54 then stopBaseBCommand m w s
  else if word = 0x60 then configLineCommand m w s
  else if word = 0x61 then configChannelCommand m w s
  else if word = 0x70 then configMasterCommand m w s
  else if word = 0x71 then disableMasterCommand m w s
  else takeUnknown m w word s

/-- UNKNOWN_COMMAND (R167). A word that does name a command is not this row's (`wellFormed`), and is the write it is (log 14). -/
def execUnknownCommand (m : Fin 8) (w : Fin 2) (word : Word) (s : State) : Host.Outcome State Fault Refusal :=
  event (writeCommandWord m w word) s

/-- COMMAND_COLLISION (R162): a BUSY window discards the word and sets its collision flag. A window that is not BUSY takes the
word, as R161 gives (log 14). -/
def execCommandCollision (m : Fin 8) (w : Fin 2) (word : Word) (s : State) : Host.Outcome State Fault Refusal :=
  event (fun t =>
    if (t.window m w).state = .busy then t.setWindow m w (t.window m w).collide else writeCommandWord m w word t) s

/-! ### Window controls -/

/-- R164: no command waits in the window. -/
def Window.refuseAbort (x : Window) : Window := { x with abortNotTaken := true }

/-- R164, R59, R89: the ABORT control. -/
def abortControl (m : Fin 8) (w : Fin 2) (s : State) : State :=
  let x := s.window m w
  if x.state = .busy then
    if s.claims.any fun q => q.isIn m w then closeEvent s (s.endClaims (fun q => q.isIn m w) .aborted)
    else if x.drainSet ≠ 0 then s.completeLate m w .aborted [x.drainSet]
    else s.setWindow m w x.refuseAbort
  else s.setWindow m w x.refuseAbort

/-- ABORT (R164). -/
def execAbort (m : Fin 8) (w : Fin 2) (s : State) : Host.Outcome State Fault Refusal := event (abortControl m w) s

/-- R165: the outcome of RESULT_TAKEN by the window's state. -/
def Window.resultTaken (x : Window) : Window :=
  match x.state with
  | .done =>
    { x with state := .idle, code := none, words := resultWords [], collision := false, abortNotTaken := false,
             completionPending := false }
  | .busy => x.collide
  | .idle => { x with collision := false, abortNotTaken := false }

/-- R165: the RESULT_TAKEN control. -/
def resultTakenControl (m : Fin 8) (w : Fin 2) (s : State) : State := s.setWindow m w (s.window m w).resultTaken

/-- RESULT_TAKEN (R165). -/
def execResultTaken (m : Fin 8) (w : Fin 2) (s : State) : Host.Outcome State Fault Refusal := event (resultTakenControl m w) s

/-- R166, R62: the window reset control; the departure of a waiting claim is a scan trigger. -/
def windowResetControl (m : Fin 8) (w : Fin 2) (s : State) : State :=
  closeEvent s ((s.removeClaims fun q => q.isIn m w).setWindow m w .rest)

/-- WINDOW_RESET (R166). -/
def execWindowReset (m : Fin 8) (w : Fin 2) (s : State) : Host.Outcome State Fault Refusal := event (windowResetControl m w) s

/-! ### Other writes -/

/-- R160: a write to an argument word. -/
def Window.writeArgument (x : Window) (index : Fin 8) (value : Word) : Window :=
  if x.state = .busy then x.collide else { x with args := x.args.set index value }

/-- R160: a write to an argument word of window `w` of master `m`. -/
def writeArgument (m : Fin 8) (w : Fin 2) (index : Fin 8) (value : Word) (s : State) : State :=
  s.setWindow m w ((s.window m w).writeArgument index value)

/-- ARGUMENT_WORD_WRITE (R160). -/
def execArgumentWordWrite (m : Fin 8) (w : Fin 2) (index : Fin 8) (value : Word) (s : State) :
    Host.Outcome State Fault Refusal :=
  event (writeArgument m w index value) s

/-- R160, R172: a write of `value` by master `m` to a word address. -/
def busWrite (m : Fin 8) (address : BitVec 6) (value : Word) (s : State) : State :=
  let w : Fin 2 := if address.getLsbD 5 then 1 else 0
  let offset := (address.extractLsb' 0 5).toNat
  if h : offset < 8 then writeArgument m w ⟨offset, h⟩ value s
  else if offset = 8 then writeCommandWord m w value s
  else if offset = 9 then
    if value = 1 then abortControl m w s
    else if value = 2 then resultTakenControl m w s
    else if value = 4 then windowResetControl m w s
    else s
  else s

/-- DISCARDED_WRITE (R160, R172). A write that is not discarded is not this row's (`wellFormed`), and is the write it is (log 14). -/
def execDiscardedWrite (m : Fin 8) (address : BitVec 6) (value : Word) (s : State) : Host.Outcome State Fault Refusal :=
  event (busWrite m address value) s

end Sys2Proof.Machine
end

