-- ==== Sys2Proof/Machine/Dispatch.lean ====
section
/-! DEFINITION. Which meaning each row of the table has. -/

namespace Sys2Proof.Machine

def exec (i : Instr) (s : State) : Host.Outcome State Fault Refusal :=
  match i with
  | .claim m w => Sys2Proof.Machine.execClaim m w s
  | .renew m w => Sys2Proof.Machine.execRenew m w s
  | .setTerm m w => Sys2Proof.Machine.execSetTerm m w s
  | .setOptions m w => Sys2Proof.Machine.execSetOptions m w s
  | .addChannels m w => Sys2Proof.Machine.execAddChannels m w s
  | .dropChannels m w => Sys2Proof.Machine.execDropChannels m w s
  | .release m w => Sys2Proof.Machine.execRelease m w s
  | .retire m w => Sys2Proof.Machine.execRetire m w s
  | .purge m w => Sys2Proof.Machine.execPurge m w s
  | .revoke m w => Sys2Proof.Machine.execRevoke m w s
  | .offer m w => Sys2Proof.Machine.execOffer m w s
  | .withdraw m w => Sys2Proof.Machine.execWithdraw m w s
  | .accept m w => Sys2Proof.Machine.execAccept m w s
  | .decline m w => Sys2Proof.Machine.execDecline m w s
  | .listOffers m w => Sys2Proof.Machine.execListOffers m w s
  | .queryLease m w => Sys2Proof.Machine.execQueryLease m w s
  | .findChannel m w => Sys2Proof.Machine.execFindChannel m w s
  | .queryClaims m w => Sys2Proof.Machine.execQueryClaims m w s
  | .resetTable m w => Sys2Proof.Machine.execResetTable m w s
  | .setMode m w => Sys2Proof.Machine.execSetMode m w s
  | .setLevel m w => Sys2Proof.Machine.execSetLevel m w s
  | .armSingle m w => Sys2Proof.Machine.execArmSingle m w s
  | .stagePeriodic m w => Sys2Proof.Machine.execStagePeriodic m w s
  | .restartPeriodic m w => Sys2Proof.Machine.execRestartPeriodic m w s
  | .force m w => Sys2Proof.Machine.execForce m w s
  | .nextNotice m w => Sys2Proof.Machine.execNextNotice m w s
  | .ackNotices m w => Sys2Proof.Machine.execAckNotices m w s
  | .ackDevice m w => Sys2Proof.Machine.execAckDevice m w s
  | .readTime m w => Sys2Proof.Machine.execReadTime m w s
  | .setPrescaler m w => Sys2Proof.Machine.execSetPrescaler m w s
  | .setBaseB m w => Sys2Proof.Machine.execSetBaseB m w s
  | .startBaseB m w => Sys2Proof.Machine.execStartBaseB m w s
  | .stopBaseB m w => Sys2Proof.Machine.execStopBaseB m w s
  | .configLine m w => Sys2Proof.Machine.execConfigLine m w s
  | .queryLine m w => Sys2Proof.Machine.execQueryLine m w s
  | .configChannel m w => Sys2Proof.Machine.execConfigChannel m w s
  | .configMasterSupervisor m w => Sys2Proof.Machine.execConfigMasterSupervisor m w s
  | .configMasterSelf m w => Sys2Proof.Machine.execConfigMasterSelf m w s
  | .disableMaster m w => Sys2Proof.Machine.execDisableMaster m w s
  | .unknownCommand m w word => Sys2Proof.Machine.execUnknownCommand m w word s
  | .commandCollision m w word => Sys2Proof.Machine.execCommandCollision m w word s
  | .abort m w => Sys2Proof.Machine.execAbort m w s
  | .resultTaken m w => Sys2Proof.Machine.execResultTaken m w s
  | .windowReset m w => Sys2Proof.Machine.execWindowReset m w s
  | .argumentWordWrite m w index value => Sys2Proof.Machine.execArgumentWordWrite m w index value s
  | .discardedWrite m address value => Sys2Proof.Machine.execDiscardedWrite m address value s
  | .resetN asserted => Sys2Proof.Machine.execResetN asserted s
  | .freeze asserted => Sys2Proof.Machine.execFreeze asserted s
  | .trefEdge => Sys2Proof.Machine.execTrefEdge s
  | .bTick => Sys2Proof.Machine.execBTick s
  | .aTick => Sys2Proof.Machine.execATick s
  | .expiryEvent base => Sys2Proof.Machine.execExpiryEvent base s
  | .stallEvent => Sys2Proof.Machine.execStallEvent s
  | .waitDeadline => Sys2Proof.Machine.execWaitDeadline s
  | .comparatorMatch c => Sys2Proof.Machine.execComparatorMatch c s
  | .widthEdge c => Sys2Proof.Machine.execWidthEdge c s
  | .boundary c => Sys2Proof.Machine.execBoundary c s
  | .drainEnd c => Sys2Proof.Machine.execDrainEnd c s
  | .renewLineEdge line rising phase => Sys2Proof.Machine.execRenewLineEdge line rising phase s
  | .systemClockPeriod => Sys2Proof.Machine.execSystemClockPeriod s

end Sys2Proof.Machine
end

