-- ==== Sys2Proof/WellFormed.lean ====
section
/-! DEFINITION. Which terms of `Instr` are the row they are written as. Numbers out of range cannot be written (the operands are
`Fin`); three rows are named after what the bus write turns out to be, and for these the operands are checked. -/

namespace Sys2Proof

/-- The command codes of the BL6416 (given in the rule that introduces each command). -/
def commandCodes : List Word :=
  [0x10, 0x11, 0x12, 0x13, 0x14, 0x15, 0x16, 0x17, 0x18, 0x19, 0x1A, 0x1B,
   0x20, 0x21, 0x22, 0x23, 0x24, 0x25,
   0x30, 0x31, 0x32, 0x33, 0x34, 0x3D, 0x3E, 0x3F,
   0x40, 0x41, 0x42, 0x50, 0x51, 0x52, 0x53, 0x54, 0x60, 0x61, 0x70, 0x71]

/-- The command word names a command: bits 15:8 are 0 and bits 7:0 are a command's code (R172). -/
def namesCommand (word : Word) : Bool := commandCodes.contains word

/-- A write of this value to this word address is discarded without effect, whatever the window's state (R160, R172): status,
result code and result words, the addresses that hold no word, and a control word with a value that names no control. -/
def isDiscardedWrite (address : BitVec 6) (value : Word) : Bool :=
  let offset := (address.extractLsb' 0 5).toNat
  if offset = 9 then !([1, 2, 4] : List Word).contains value else 10 ≤ offset

/-- A term is the row its constructor names. -/
def wellFormed : Instr → Bool
  | .unknownCommand _ _ word => !namesCommand word
  | .discardedWrite _ address value => isDiscardedWrite address value
  | .claim _ _ | .renew _ _ | .setTerm _ _ | .setOptions _ _ | .addChannels _ _ | .dropChannels _ _
  | .release _ _ | .retire _ _ | .purge _ _ | .revoke _ _ | .offer _ _ | .withdraw _ _ | .accept _ _
  | .decline _ _ | .listOffers _ _ | .queryLease _ _ | .findChannel _ _ | .queryClaims _ _
  | .resetTable _ _ | .setMode _ _ | .setLevel _ _ | .armSingle _ _ | .stagePeriodic _ _
  | .restartPeriodic _ _ | .force _ _ | .nextNotice _ _ | .ackNotices _ _ | .ackDevice _ _
  | .readTime _ _ | .setPrescaler _ _ | .setBaseB _ _ | .startBaseB _ _ | .stopBaseB _ _
  | .configLine _ _ | .queryLine _ _ | .configChannel _ _ | .configMasterSupervisor _ _
  | .configMasterSelf _ _ | .disableMaster _ _ | .commandCollision _ _ _ | .abort _ _
  | .resultTaken _ _ | .windowReset _ _ | .argumentWordWrite _ _ _ _ | .resetN _ | .freeze _
  | .trefEdge | .bTick | .aTick | .expiryEvent _ | .stallEvent | .waitDeadline | .comparatorMatch _
  | .widthEdge _ | .boundary _ | .drainEnd _ | .renewLineEdge _ _ _ | .systemClockPeriod => true

end Sys2Proof
end

