-- ==== Sys2Proof/Safety.lean ====
section
/-! DEFINITION. The terms in which statements about the part are made: when a command can be taken, what its window holds once it is
done, the port's tables of rows (R7, R161, R167), and the conditions that every run keeps. -/

namespace Sys2Proof.Machine

/-! ### When a command is taken, and how its window looks afterwards -/

/-- RESET_N is deasserted, no tick is due, and no part of an A-tick is open, so that the next row is taken on this very state. -/
abbrev State.settled (s : State) : Prop := s.resetAsserted = false ∧ s.quiet = true

/-- A command word written now by master `m` to window `w` is taken, and passes check 2 of R167. -/
abbrev State.canTake (s : State) (m : Fin 8) (w : Fin 2) : Prop :=
  s.settled ∧ (s.window m w).state ≠ .busy ∧ (s.master m).enabled = true

/-- The argument words of a window. -/
abbrev State.args (s : State) (m : Fin 8) (w : Fin 2) : Args := (s.window m w).args

/-- A window whose command completed in the event that took it (R161, R163): its argument words are kept, every flag is clear. -/
def Window.doneWith (x : Window) (word : Word) (code : ResultCode) (items : List Word) : Window where
  state := .done
  args := x.args
  command := word
  code := some code
  words := resultWords items
  collision := false
  abortNotTaken := false
  drainSet := 0
  completionPending := false
  released := 0
  drained := 0

/-- Window `w` of master `m` is done with this result, and nothing else is changed. -/
def State.finish (s : State) (m : Fin 8) (w : Fin 2) (word : Word) (code : ResultCode) (items : List Word) : State :=
  s.setWindow m w ((s.window m w).doneWith word code items)

/-- A window that waits: its command is taken and has no result yet (R52, R88, R161). -/
def Window.waitsWith (x : Window) (word : Word) (drainSet released drained : ChannelSet) : Window where
  state := .busy
  args := x.args
  command := word
  code := none
  words := resultWords []
  collision := false
  abortNotTaken := false
  drainSet := drainSet
  completionPending := false
  released := released
  drained := drained

/-- The handle word `h` names record `n`, which is not FREE and carries the handle's generation (R6). -/
abbrev State.names (s : State) (h : Word) (n : Fin 64) : Prop :=
  handleLease h = n ∧ handleGeneration h = (s.lease n).generation ∧ (s.lease n).state ≠ .free

/-- The handle word `h` names lease `n`, which is HELD or GRACE and held by master `m`: it passes the handle checks of R7. -/
abbrev State.holdsLive (s : State) (m : Fin 8) (h : Word) (n : Fin 64) : Prop :=
  s.names h n ∧ ((s.lease n).state = .held ∨ (s.lease n).state = .grace) ∧ (s.lease n).holder = some m

/-- The channels of a set are those, and only those, with a property. -/
abbrev isSetOf (set : ChannelSet) (p : Fin 16 → Prop) : Prop := ∀ c : Fin 16, set.getLsbD c.val = true ↔ p c

/-- `c` is the lowest channel of the set with a property. -/
abbrev isLowest (set : ChannelSet) (p : Fin 16 → Prop) (c : Fin 16) : Prop :=
  set.getLsbD c.val = true ∧ p c ∧ ∀ d : Fin 16, d.val < c.val → set.getLsbD d.val = true → ¬ p d

/-- `n` is the lowest-numbered FREE record (R11). -/
abbrev State.isLowestFree (s : State) (n : Fin 64) : Prop :=
  (s.lease n).state = .free ∧ ∀ k : Fin 64, k.val < n.val → (s.lease k).state ≠ .free

/-- A channel goes IDLE: no governing lease, and the waveform fields at the values that R120 lists. -/
def Channel.idled (ch : Channel) : Channel where
  state := .idle
  governing := none
  config := ch.config
  wave :=
    { mode := .level, flipFlop := false, level := false, period := 0, width := 0, staged := none, position := 0,
      rise := none, fall := none }

/-- A channel goes ACTIVE under lease `n` (R116). -/
def Channel.taken (ch : Channel) (n : Fin 64) : Channel := { ch.idled with state := .active, governing := some n }

/-- The table of R118: what a release makes of a governed channel. -/
def Channel.afterRelease (ch : Channel) : Channel :=
  match ch.state, ch.wave.mode, ch.config.releaseStyle with
  | .active, .periodic, .atBoundary => { ch with state := .draining, governing := none }
  | .active, _, _ => ch.idled
  | .parked, _, _ => ch.idled
  | .idle, _, _ => ch
  | .draining, _, _ => ch

/-- The table of R118: the release sends this channel DRAINING. -/
abbrev Channel.wouldDrain (ch : Channel) : Prop :=
  ch.state = .active ∧ ch.wave.mode = .periodic ∧ ch.config.releaseStyle = .atBoundary

/-- What R14 and R15 do around a live lease `n`: it leaves its expiry queue and its target's offer list, its channels are released and
its line is unbound. The lease record is not changed yet. -/
def State.letGo (s : State) (n : Fin 64) : State :=
  let l := s.lease n
  { s with
    expiryA := if l.base = .a then s.expiryA.filter (· != n) else s.expiryA
    expiryB := if l.base = .b then s.expiryB.filter (· != n) else s.expiryB
    channels := tabulate fun c => if l.channels.getLsbD c.val then (s.channel c).afterRelease else s.channel c
    lines := tabulate fun k => if l.line = some k then { s.line k with bound := none } else s.line k
    offers := tabulate fun m => if l.offerTarget = some m then (s.offerList m).filter (· != n) else s.offerList m }

/-- The record of a lapsed lease (R2, R14), with the LAPSED notice raised on it. -/
def Lease.afterLapse (l : Lease) (why : EndReason) : Lease :=
  { l with
    state := .lapsed, channels := 0, stagedTerm := none, line := none, endReason := some why, offerTarget := none
    notices := l.notices ||| 0b000010, noticeCount := l.noticeCount + 1 }

/-- A FREE record with this generation (R3). -/
def Lease.blank (generation : BitVec 8) : Lease where
  state := .free
  generation := generation
  holder := none
  channels := 0
  base := .a
  term := 0
  stagedTerm := none
  grace := 0
  graceAction := .hold
  expiry := 0
  line := none
  lastRenewal := 0
  renewals := 0
  urgency := 0
  boundaryNotices := false
  endReason := none
  offerTarget := none
  notices := 0
  noticeCount := 0

/-- The count of master `m` changes by a function (R9). -/
def State.recount (s : State) (m : Fin 8) (f : Nat → Nat) : State :=
  s.setMaster m { s.master m with count := f (s.master m).count }

/-! ### The Command Port's tables -/

/-- The master, the window and the word of a row that writes a command word (section 11.1 and the rule that introduces each command). -/
def commandWrite : Instr → Option (Fin 8 × Fin 2 × Word)
  | .claim m w => some (m, w, 0x10)
  | .renew m w => some (m, w, 0x11)
  | .setTerm m w => some (m, w, 0x12)
  | .setOptions m w => some (m, w, 0x13)
  | .addChannels m w => some (m, w, 0x14)
  | .dropChannels m w => some (m, w, 0x15)
  | .release m w => some (m, w, 0x16)
  | .retire m w => some (m, w, 0x17)
  | .purge m w => some (m, w, 0x3E)
  | .revoke m w => some (m, w, 0x3D)
  | .offer m w => some (m, w, 0x18)
  | .withdraw m w => some (m, w, 0x19)
  | .accept m w => some (m, w, 0x1A)
  | .decline m w => some (m, w, 0x1B)
  | .listOffers m w => some (m, w, 0x34)
  | .queryLease m w => some (m, w, 0x30)
  | .findChannel m w => some (m, w, 0x31)
  | .queryClaims m w => some (m, w, 0x32)
  | .resetTable m w => some (m, w, 0x3F)
  | .setMode m w => some (m, w, 0x20)
  | .setLevel m w => some (m, w, 0x21)
  | .armSingle m w => some (m, w, 0x22)
  | .stagePeriodic m w => some (m, w, 0x23)
  | .restartPeriodic m w => some (m, w, 0x24)
  | .force m w => some (m, w, 0x25)
  | .nextNotice m w => some (m, w, 0x40)
  | .ackNotices m w => some (m, w, 0x41)
  | .ackDevice m w => some (m, w, 0x42)
  | .readTime m w => some (m, w, 0x50)
  | .setPrescaler m w => some (m, w, 0x51)
  | .setBaseB m w => some (m, w, 0x52)
  | .startBaseB m w => some (m, w, 0x53)
  | .stopBaseB m w => some (m, w, 0x54)
  | .configLine m w => some (m, w, 0x60)
  | .queryLine m w => some (m, w, 0x33)
  | .configChannel m w => some (m, w, 0x61)
  | .configMasterSupervisor m w => some (m, w, 0x70)
  | .configMasterSelf m w => some (m, w, 0x70)
  | .disableMaster m w => some (m, w, 0x71)
  | .unknownCommand m w word => some (m, w, word)
  | .commandCollision m w word => some (m, w, word)
  | .abort _ _ | .resultTaken _ _ | .windowReset _ _ | .argumentWordWrite _ _ _ _ | .discardedWrite _ _ _ | .resetN _
  | .freeze _ | .trefEdge | .bTick | .aTick | .expiryEvent _ | .stallEvent | .waitDeadline | .comparatorMatch _ | .widthEdge _
  | .boundary _ | .drainEnd _ | .renewLineEdge _ _ _ | .systemClockPeriod => none

/-- The master whose bus access a row is. -/
def issuer (i : Instr) : Option (Fin 8) :=
  match i with
  | .abort m _ | .resultTaken m _ | .windowReset m _ | .argumentWordWrite m _ _ _ | .discardedWrite m _ _ => some m
  | i => (commandWrite i).map fun t => t.1

/-- R167, the table of commands reserved to master 0: their command words. CONFIG_MASTER is reserved in its SUPERVISOR form alone. -/
def reservedToMaster0 (word : Word) (a : Args) : Bool :=
  ([0x71, 0x51, 0x52, 0x53, 0x54, 0x3D, 0x3E, 0x3F, 0x32, 0x60, 0x61, 0x42] : List Word).contains word
  || (word == 0x70 && a[0] == 0)

/-- What each command's rule refuses BAD_ARGUMENT at the port: R48, R72, R86, R103, R17, R20, R65, R132, R134, R135, R140, R130, R142,
R151, R28, R32, R83, R84, R124, R169, R170. A command that is not listed refuses nothing there. -/
def badAtPort (word : Word) (a : Args) : Bool :=
  if word = 0x10 then
    decide (1 < (a[4].extractLsb' 0 2).toNat ∨ 1 < (a[4].extractLsb' 2 2).toNat ∨ 7 < (a[4].extractLsb' 4 4).toNat
      ∨ 1 < (a[4].extractLsb' 8 2).toNat)
  else if word = 0x13 then
    decide (a[1].extractLsb' 0 4 = 0 ∨ (a[1].getLsbD 1 ∧ 1 < a[3].toNat) ∨ (a[1].getLsbD 2 ∧ 7 < a[4].toNat)
      ∨ (a[1].getLsbD 3 ∧ 1 < a[5].toNat))
  else if word = 0x16 then decide (1 < a[1].toNat)
  else if word = 0x18 then decide (7 < a[1].toNat)
  else if word = 0x30 then decide (1 < a[1].toNat)
  else if word = 0x31 then decide (15 < a[0].toNat)
  else if word = 0x32 then decide (11 < a[0].toNat)
  else if word = 0x33 then decide (7 < a[0].toNat)
  else if word = 0x20 then decide (15 < a[1].toNat ∨ 2 < a[2].toNat ∨ (a[2] = 2 ∧ a[3].toNat < 2))
  else if word = 0x21 then decide (15 < a[1].toNat ∨ 1 < a[2].toNat)
  else if word = 0x22 then
    decide (15 < a[1].toNat ∨ 2 < a[2].toNat ∨ 2 < a[5].toNat ∨ (a[2] = 0 ∧ a[5] = 0))
  else if word = 0x23 then decide (15 < a[1].toNat ∨ a[2] = 1)
  else if word = 0x24 then decide (15 < a[1].toNat)
  else if word = 0x25 then decide (15 < a[1].toNat ∨ 1 < a[2].toNat)
  else if word = 0x41 then decide (63 < a[1].toNat)
  else if word = 0x51 then decide (a[0] = 0 ∨ 4096 < a[0].toNat ∨ 1 < a[1].toNat)
  else if word = 0x52 then decide (a[0] = 0 ∨ 256 < a[0].toNat ∨ 1 < a[2].toNat)
  else if word = 0x60 then decide (7 < a[0].toNat ∨ 3 < a[1].toNat)
  else if word = 0x61 then
    decide (15 < a[0].toNat ∨ 1 < a[1].toNat ∨ 2 < a[2].toNat ∨ 1 < a[3].toNat ∨ 1 < a[4].toNat ∨ (a[3] = 1 ∧ a[2] = 1))
  else if word = 0x70 then
    decide ((a[0] = 0 ∧ (7 < a[1].toNat ∨ 1 < a[2].toNat ∨ 64 < a[3].toNat ∨ 7 < a[4].toNat ∨ 1 < a[5].toNat))
      ∨ (a[0] = 1 ∧ (7 < a[1].toNat ∨ 1 < a[2].toNat)) ∨ 1 < a[0].toNat)
  else if word = 0x71 then decide (a[0] = 0 ∨ 7 < a[0].toNat)
  else false

/-- R167: the first check of the port that fails for a command word of master `m`. -/
def portVerdict (word : Word) (a : Args) (enabled : Bool) (m : Fin 8) : Option ResultCode :=
  if namesCommand word = false then some .unknownCommand
  else if enabled = false then some .masterDisabled
  else if reservedToMaster0 word a = true ∧ m ≠ 0 then some .notPermitted
  else if badAtPort word a = true then some .badArgument
  else none

/-- R7, the table of the handle checks: for a command word, whether NOT_HOLDER and whether LEASE_LAPSED applies beside STALE_HANDLE. -/
def handleChecks (word : Word) (a : Args) : Option (Bool × Bool) :=
  if ([0x11, 0x12, 0x13, 0x14, 0x15, 0x16, 0x18, 0x19, 0x20, 0x21, 0x22, 0x23, 0x24, 0x25] : List Word).contains word then
    some (true, true)
  else if word = 0x17 ∨ word = 0x41 then some (true, false)
  else if word = 0x3D then some (false, true)
  else if word = 0x3E then some (false, false)
  else if word = 0x30 ∧ handleGeneration a[0] ≠ 0 then some (false, false)
  else none

/-- R7: the first handle check that fails. -/
def State.handleVerdict (s : State) (m : Fin 8) (h : Word) (checks : Bool × Bool) : Option ResultCode :=
  let l := s.lease (handleLease h)
  if l.state = .free ∨ l.generation ≠ handleGeneration h then some .staleHandle
  else if checks.1 = true ∧ l.holder ≠ some m then some .notHolder
  else if checks.2 = true ∧ l.state = .lapsed then some .leaseLapsed
  else none

/-- R68, R69, R81: what a renewal of live lease `n` leaves: a new term counted from the present value of its base, its place in the
queue after the leases at that stamp, and its PARKED channels ACTIVE again. `stamp` is its last renewal stamp. -/
def State.oneTermAhead (s : State) (n : Fin 64) (stamp : Stamp) : State :=
  let l := s.lease n
  let term := l.stagedTerm.getD l.term
  let t := s.setLease n
    { l with state := .held, term := term, stagedTerm := none, expiry := s.now l.base + term.setWidth 32,
             renewals := if l.renewals.toNat < 65535 then l.renewals + 1 else 65535, lastRenewal := stamp }
  let u := t.setExpiryQueue l.base
    (insertByDistance (fun k => ((t.lease k).expiry - s.now l.base).toInt) n ((s.expiryQueue l.base).filter (· != n)))
  u.mapChannels fun c ch =>
    if l.state = .grace ∧ l.channels.getLsbD c.val = true ∧ ch.state = .parked then { ch with state := .active } else ch

/-- R14: what the lapse of live lease `n` leaves, before the scan. -/
def State.lapsedBy (s : State) (n : Fin 64) (why : EndReason) : State := (s.letGo n).setLease n ((s.lease n).afterLapse why)

/-- R15: what the freeing of record `n`, held by master `m`, leaves, before the scan. -/
def State.freedFrom (s : State) (n : Fin 64) (m : Fin 8) : State :=
  let t := if (s.lease n).state = .held ∨ (s.lease n).state = .grace then s.letGo n else s
  (t.setLease n (Lease.blank (s.lease n).generation)).recount m fun count => count - 1

/-! ### The checks of CLAIM (R48, R49, R50) -/

/-- R49, check 1. -/
abbrev claimMalformed (a : Args) : Prop :=
  a[0] = 0 ∨ claimTerm a = 0 ∨ (a[5].getLsbD 15 = true ∧ 7 < (a[5].extractLsb' 0 4).toNat)

/-- The renew line that CLAIM's argument word 5 names (R175). -/
def claimLine (a : Args) : Option (Fin 8) :=
  if a[5].getLsbD 15 then some (eightOfWord ((a[5].extractLsb' 0 4).setWidth 16)) else none

/-- The base that CLAIM's argument word 4 names (R175). -/
def claimBase (a : Args) : Base := if a[4].getLsbD 0 then .b else .a

/-- R123: master `m` is not permitted on the channel. -/
abbrev State.forbids (s : State) (m : Fin 8) (c : Fin 16) : Prop := (s.channel c).config.permitted.getLsbD m.val = false

/-- R49, check 3. -/
abbrev State.claimBaseStopped (s : State) (a : Args) : Prop := claimBase a = .b ∧ s.baseB.state ≠ .running

/-- R49, check 4: the channel is ACTIVE or PARKED under lease `n`, HELD or GRACE, of master `m`. -/
abbrev State.governedBy (s : State) (m : Fin 8) (c : Fin 16) (n : Fin 64) : Prop :=
  ((s.channel c).state = .active ∨ (s.channel c).state = .parked) ∧ (s.channel c).governing = some n
  ∧ (s.lease n).live = true ∧ (s.lease n).holder = some m

/-- R49, check 5. -/
abbrev State.lineTaken (s : State) (k : Fin 8) : Prop := (s.line k).bound ≠ none ∨ ∃ q ∈ s.claims, q.line = some k

/-- R53. -/
abbrev State.reservedChannel (s : State) (c : Fin 16) : Prop := ∃ q ∈ s.claims, q.channels.getLsbD c.val = true

/-- CLAIM passes the port and the six checks of R49. -/
abbrev State.claimPasses (s : State) (m : Fin 8) (a : Args) : Prop :=
  badAtPort 0x10 a = false ∧ ¬ claimMalformed a
  ∧ (∀ c : Fin 16, a[0].getLsbD c.val = true → ¬ s.forbids m c) ∧ ¬ s.claimBaseStopped a
  ∧ (∀ c : Fin 16, a[0].getLsbD c.val = true → ∀ n : Fin 64, ¬ s.governedBy m c n)
  ∧ (∀ k ∈ claimLine a, ¬ s.lineTaken k) ∧ (s.master m).count < (s.master m).quota

/-- R50: the claim's channels are IDLE and not reserved. -/
abbrev State.claimChannelsFree (s : State) (a : Args) : Prop :=
  ∀ c : Fin 16, a[0].getLsbD c.val = true → (s.channel c).state = .idle ∧ ¬ s.reservedChannel c

/-- R50: the claim is not grantable now. -/
abbrev State.claimMustWait (s : State) (a : Args) : Prop :=
  ¬ s.claimChannelsFree a ∨ ∀ n : Fin 64, (s.lease n).state ≠ .free

/-- R12: the record a grant sets on record `n` for the claim of master `m` with these arguments. -/
def State.claimRecord (s : State) (m : Fin 8) (a : Args) (n : Fin 64) : Lease where
  state := .held
  generation := if (s.lease n).generation = 255 then 1 else (s.lease n).generation + 1
  holder := some m
  channels := a[0]
  base := claimBase a
  term := claimTerm a
  stagedTerm := none
  grace := a[3]
  graceAction := if a[4].getLsbD 2 then .park else .hold
  expiry := s.now (claimBase a) + (claimTerm a).setWidth 32
  line := claimLine a
  lastRenewal := s.now (claimBase a)
  renewals := 0
  urgency := a[4].extractLsb' 4 3
  boundaryNotices := a[4].getLsbD 8
  endReason := none
  offerTarget := none
  notices := 0
  noticeCount := 0

/-! ### Conditions that every run keeps -/

/-- R158, R149, R160: the result code is present exactly while DONE, the completion-pending flag is set only on a DONE window, a drain set
stands only in a BUSY window, and the result words are 0 unless the window is DONE. -/
abbrev State.windowsKept (s : State) : Prop :=
  ∀ (m : Fin 8) (w : Fin 2),
    ((s.window m w).code ≠ none ↔ (s.window m w).state = .done)
    ∧ ((s.window m w).completionPending = true → (s.window m w).state = .done)
    ∧ ((s.window m w).drainSet ≠ 0 → (s.window m w).state = .busy)
    ∧ ((s.window m w).state ≠ .done → (s.window m w).words = Vector.replicate 12 0)

/-- R168, R10: master 0 is enabled, roles are fixed, quotas are at most 64. -/
abbrev State.mastersKept (s : State) : Prop :=
  (s.master 0).enabled = true ∧
  ∀ m : Fin 8, (s.master m).role = (if m = 0 then .supervisor else .user) ∧ (s.master m).quota ≤ 64

/-- R47, R159: at most 12 claims wait, no two in one window; a window is BUSY exactly while its CLAIM waits in the grant queue or its
RELEASE waits for its drain. -/
abbrev State.waitsKept (s : State) : Prop :=
  s.claims.length ≤ 12
  ∧ s.claims.Pairwise (fun p q => ¬ (p.master = q.master ∧ p.window = q.window))
  ∧ (∀ q ∈ s.claims, (s.window q.master q.window).command = 0x10 ∧ (s.window q.master q.window).drainSet = 0)
  ∧ ∀ (m : Fin 8) (w : Fin 2),
      ((s.window m w).drainSet ≠ 0 → (s.window m w).command = 0x16)
      ∧ ((s.window m w).state = .busy ↔
          ((∃ q ∈ s.claims, q.master = m ∧ q.window = w) ∨ (s.window m w).drainSet ≠ 0))

/-- R102: a lease has an offer target only while HELD or GRACE, and appears exactly once, in its target's list; no list exceeds 4. -/
abbrev State.offersKept (s : State) : Prop :=
  (∀ n : Fin 64, (s.lease n).offerTarget ≠ none → (s.lease n).live = true)
  ∧ ∀ m : Fin 8, (s.offerList m).length ≤ 4 ∧ (s.offerList m).Nodup
      ∧ ∀ n : Fin 64, n ∈ s.offerList m ↔ (s.lease n).offerTarget = some m

/-- R115, R119, R120, R2: a channel has a governing lease exactly when it is ACTIVE or PARKED, that lease then being live and listing
the channel; a lease lists only channels it governs, and a live one at least one; an IDLE channel holds rest values; a DRAINING
one is PERIODIC; a PARKED one is under a lease in GRACE. Every waiting claim names a channel. -/
abbrev State.channelsKept (s : State) : Prop :=
  (∀ c : Fin 16, ((s.channel c).governing ≠ none ↔ ((s.channel c).state = .active ∨ (s.channel c).state = .parked))
      ∧ ((s.channel c).state = .idle → (s.channel c).wave = Channel.powerOn.wave)
      ∧ ((s.channel c).state = .draining → (s.channel c).wave.mode = .periodic))
  ∧ (∀ (c : Fin 16) (n : Fin 64), (s.channel c).governing = some n →
      (s.lease n).live = true ∧ (s.lease n).channels.getLsbD c.val = true
      ∧ ((s.channel c).state = .parked → (s.lease n).state = .grace))
  ∧ (∀ (n : Fin 64) (c : Fin 16), (s.lease n).channels.getLsbD c.val = true → (s.channel c).governing = some n)
  ∧ (∀ n : Fin 64, (s.lease n).live = true → (s.lease n).channels ≠ 0)
  ∧ ∀ q ∈ s.claims, q.channels ≠ 0

/-- R129, R113: the waveform fields that a mode does not use hold their rest values; in LEVEL mode the flip-flop equals the level; in
PERIODIC mode the period, and a staged period, is at least 2. R121: no channel with drive OPEN_DRAIN has safe level HIGH. -/
abbrev State.wavesKept (s : State) : Prop :=
  ∀ c : Fin 16,
    ((s.channel c).wave.mode = .level →
        (s.channel c).wave.flipFlop = (s.channel c).wave.level ∧ (s.channel c).wave.rise = none ∧ (s.channel c).wave.fall = none)
    ∧ ((s.channel c).wave.mode ≠ .periodic →
        (s.channel c).wave.period = 0 ∧ (s.channel c).wave.width = 0 ∧ (s.channel c).wave.staged = none
        ∧ (s.channel c).wave.position = 0)
    ∧ ((s.channel c).wave.mode ≠ .level → (s.channel c).wave.level = false)
    ∧ ((s.channel c).wave.mode = .periodic →
        (s.channel c).wave.rise = none ∧ (s.channel c).wave.fall = none ∧ 2 ≤ (s.channel c).wave.period.toNat
        ∧ 2 ≤ ((s.channel c).wave.staged.map fun pair => pair.1.toNat).getD 2)
    ∧ ¬ ((s.channel c).config.drive = .openDrain ∧ (s.channel c).config.safeLevel = .high)

/-- R38: every HELD or GRACE lease is exactly once in the expiry queue of its base, and nothing else is in a queue. -/
abbrev State.expiryKept (s : State) : Prop :=
  s.expiryA.Nodup ∧ s.expiryB.Nodup
  ∧ ∀ n : Fin 64, (n ∈ s.expiryA ↔ ((s.lease n).live = true ∧ (s.lease n).base = .a))
      ∧ (n ∈ s.expiryB ↔ ((s.lease n).live = true ∧ (s.lease n).base = .b))

/-- R82: a line is bound to a lease exactly when the lease names it, that lease being live; no waiting claim names a bound line, and no
two waiting claims name one line (R49, R84). -/
abbrev State.linesKept (s : State) : Prop :=
  (∀ n : Fin 64, (s.lease n).line ≠ none → (s.lease n).live = true)
  ∧ (∀ (n : Fin 64) (k : Fin 8), (s.line k).bound = some n ↔ (s.lease n).line = some k)
  ∧ (∀ q ∈ s.claims, ∀ k : Fin 8, q.line = some k → (s.line k).bound = none)
  ∧ s.claims.Pairwise fun p q => ¬ (p.line ≠ none ∧ p.line = q.line)

/-- R9: each master's lease count is the number of records that are not FREE and name it as holder; a FREE record names no holder. -/
abbrev State.countsKept (s : State) : Prop :=
  (∀ n : Fin 64, (s.lease n).state = .free → (s.lease n).holder = none)
  ∧ ∀ m : Fin 8, (s.master m).count =
      (List.finRange 64).countP fun n => (s.lease n).state != .free && (s.lease n).holder == some m

/-- R31, R33, R34, R46: while a live lease or a waiting claim is on base B, base B is RUNNING; while the device notice is BASE_B_STALLED,
base B is STALLED. -/
abbrev State.baseBKept (s : State) : Prop :=
  (∀ n : Fin 64, (s.lease n).live = true → (s.lease n).base = .b → s.baseB.state = .running)
  ∧ (∀ q ∈ s.claims, q.base = .b → s.baseB.state = .running)
  ∧ (s.deviceNotice = .baseBStalled → s.baseB.state = .stalled)

/-- R3, R2, R5, R92: a FREE record holds its rest values; any other has a holder and a generation above 0; the end reason is present
exactly while LAPSED, and a LAPSED record has no channels, staged term, line or offer. -/
abbrev State.recordsKept (s : State) : Prop :=
  ∀ n : Fin 64,
    ((s.lease n).state = .free → s.lease n = Lease.blank (s.lease n).generation)
    ∧ ((s.lease n).state ≠ .free → (s.lease n).holder ≠ none ∧ (s.lease n).generation ≠ 0)
    ∧ ((s.lease n).endReason ≠ none ↔ (s.lease n).state = .lapsed)
    ∧ ((s.lease n).state = .lapsed →
        (s.lease n).channels = 0 ∧ (s.lease n).stagedTerm = none ∧ (s.lease n).line = none ∧ (s.lease n).offerTarget = none)

/-- The distance of lease `n`'s expiry stamp from the present value of a base (R25). -/
abbrev State.stampDistance (s : State) (base : Base) (n : Fin 64) : Int := ((s.lease n).expiry - s.now base).toInt

/-- R38, R26: each expiry queue stands in order of distance, the smaller first. -/
abbrev State.queuesOrdered (s : State) : Prop :=
  s.expiryA.Pairwise (fun n k => s.stampDistance .a n ≤ s.stampDistance .a k)
  ∧ s.expiryB.Pairwise (fun n k => s.stampDistance .b n ≤ s.stampDistance .b k)

/-- R26: no stamp in a queue lies 2³¹ ticks behind the present value of its base. -/
abbrev State.stampsNear (s : State) : Prop :=
  (∀ n ∈ s.expiryA, -2147483648 < s.stampDistance .a n) ∧ ∀ n ∈ s.expiryB, -2147483648 < s.stampDistance .b n

/-- R55: a scan that has passed the older claims `older` would grant `q`. -/
abbrev State.grantableBehind (s : State) (older : List Claim) (q : Claim) : Prop :=
  (∀ c : Fin 16, q.channels.getLsbD c.val = true → (s.channel c).state = .idle ∧ ∀ p ∈ older, p.channels.getLsbD c.val = false)
  ∧ (∃ n : Fin 64, (s.lease n).state = .free) ∧ (s.master q.master).count < (s.master q.master).quota

/-- R55, closing paragraph: no waiting claim is grantable. -/
abbrev State.noneGrantable (s : State) : Prop :=
  ∀ i : Fin s.claims.length, ¬ s.grantableBehind (s.claims.take i.val) s.claims[i]

/-- R27 to R32: both divisors, and the divisors the advances now gathering complete on, are 1 or more. -/
abbrev State.divisorsKept (s : State) : Prop :=
  1 ≤ s.baseA.divisor.toNat ∧ 1 ≤ s.baseA.divisorInUse.toNat ∧ 1 ≤ s.baseB.divisor.toNat ∧ 1 ≤ s.baseB.divisorInUse.toNat

/-- The conditions that every run from reset keeps, together. -/
abbrev State.kept (s : State) : Prop :=
  s.windowsKept ∧ s.mastersKept ∧ s.waitsKept ∧ s.offersKept ∧ s.channelsKept ∧ s.wavesKept ∧ s.expiryKept ∧ s.linesKept
  ∧ s.countsKept ∧ s.baseBKept ∧ s.recordsKept ∧ s.divisorsKept

/-- What every run is for (R121): no pin shows a level other than its safe level unless its channel is ACTIVE or DRAINING. -/
abbrev State.pinsSafe (s : State) : Prop :=
  ∀ c : Fin 16, s.outPin c ≠ (if s.resetAsserted then .released else (s.channel c).config.safeLevel.pin) →
    (s.channel c).state = .active ∨ (s.channel c).state = .draining

end Sys2Proof.Machine
end

