-- ==== Sys2Proof/Certificates/Slice0/Obligations.lean ====
section
/-! DEFINITION. The statements about the part. Each names the rules of spec/ it rests on; the terms are those of Safety.lean. -/

open Sys2Proof Sys2Proof.Machine

/-! ## Steps, reset, the closing of a tick -/

/-- A step takes the row at the front of the queue whole, with the rest left waiting; with nothing waiting the part idles (log 5). -/
def Obligations.StepTakesTheFrontRow : Prop :=
  ∀ s : State,
    (∀ (c : Instr) (rest : List Instr), s.pending = c :: rest → step s = exec c { s with pending := rest })
    ∧ (s.pending = [] → step s = .next s)

/-- The power-on values that R3, R27, R29, R38, R46, R47, R79, R102, R114, R147, R158 and R168 give. -/
def Obligations.ResetHoldsPowerOnValues : Prop :=
  (∀ n : Fin 64, State.reset.lease n = Lease.blank 0)
  ∧ (∀ m : Fin 8, State.reset.offerList m = [])
  ∧ State.reset.baseA.counter = 0 ∧ State.reset.baseA.divisor = 1 ∧ State.reset.baseA.count = 0
  ∧ State.reset.baseA.honourFreeze = true
  ∧ State.reset.baseB.state = .stopped ∧ State.reset.baseB.counter = 0 ∧ State.reset.baseB.divisor = 1
  ∧ State.reset.baseB.edgeCount = 0 ∧ State.reset.baseB.stallLimit = 0 ∧ State.reset.baseB.stallWatch = 0
  ∧ State.reset.baseB.honourFreeze = true
  ∧ State.reset.expiryA = [] ∧ State.reset.expiryB = []
  ∧ State.reset.deviceNotice = DeviceNotice.none
  ∧ State.reset.claims = [] ∧ State.reset.arrivals = 0
  ∧ (∀ k : Fin 8, (State.reset.line k).edge = .off ∧ (State.reset.line k).bound = none ∧ (State.reset.line k).lastEdge = 0)
  ∧ (∀ c : Fin 16, State.reset.channel c =
      Channel.idled { state := .idle, governing := none, wave := .rest, config :=
        { polarity := .normal, safeLevel := .openLevel, drive := .pushPull, releaseStyle := .immediate, permitted := 0xFF } })
  ∧ (∀ (m : Fin 8) (w : Fin 2), State.reset.window m w =
      { state := .idle, args := Vector.replicate 8 0, command := 0, code := none, words := Vector.replicate 12 0,
        collision := false, abortNotTaken := false, drainSet := 0, completionPending := false, released := 0, drained := 0 })
  ∧ ∀ m : Fin 8, State.reset.master m =
      { enabled := decide (m = 0), role := if m = 0 then .supervisor else .user, quota := 8, count := 0,
        completionUrgency := 1, interruptEnable := false }

/-- R177: while RESET_N is asserted every block holds its power-on values, no access, period or edge is taken, a read returns 0, every
OUT pin is released and every INT pin deasserted; the deassertion changes nothing else. The levels of the input pins are
kept with the model's own fields (log 19). -/
def Obligations.ResetLineHoldsThePart : Prop :=
  ∀ s : State,
    exec (.resetN true) s = .next
      { State.reset with
        lines := tabulate fun k => { edge := .off, bound := none, lastEdge := 0, captured := [], level := (s.line k).level }
        freeze := s.freeze
        resetAsserted := true
        freeCount := s.freeCount
        pending := s.pending }
    ∧ exec (.resetN false) s = .next { s with resetAsserted := false }
    ∧ (s.resetAsserted = true →
        (∀ i : Instr, (∀ r, i ≠ .resetN r) → (∀ f, i ≠ .freeze f) → (∀ k r p, i ≠ .renewLineEdge k r p) → exec i s = .next s)
        ∧ (∀ f : Bool, exec (.freeze f) s = .next { s with freeze := f })
        ∧ (∀ (k : Fin 8) (r : Bool) (p : EdgePhase), exec (.renewLineEdge k r p) s =
            .next (if p = .isTaken then s else s.setLine k { s.line k with level := r }))
        ∧ (∀ (m : Fin 8) (address : BitVec 6), s.busRead m address = 0)
        ∧ (∀ c : Fin 16, s.outPin c = .released)
        ∧ ∀ m : Fin 8, s.intPin m = false)

/-- Of the model's own operation closeTick (log 3, log 4), not of a step: once a tick is closed, whatever order the free choice took, no tick
is due and no part of an A-tick is open. -/
def Obligations.ClosedTickLeavesNothingOpen : Prop :=
  ∀ s : State, s.divisorsKept → s.closeTick.quiet = true

/-! ## The Command Port -/

/-- R162: a BUSY window discards a command word and sets its collision flag; R167: otherwise the first of the port's checks that fails
decides the result, and nothing but the window changes (R163). -/
def Obligations.PortChecksInOrder : Prop :=
  ∀ (i : Instr) (m : Fin 8) (w : Fin 2) (word : Word) (s : State), commandWrite i = some (m, w, word) → s.settled →
    ((s.window m w).state = .busy → exec i s = .next (s.setWindow m w { s.window m w with collision := true }))
    ∧ ∀ code : ResultCode, (s.window m w).state ≠ .busy →
        portVerdict word (s.args m w) (s.master m).enabled m = some code → exec i s = .next (s.finish m w word code [])

/-- R7: a command that passes the port is refused by the first handle check that fails, and nothing but its window changes. -/
def Obligations.HandleChecksInOrder : Prop :=
  ∀ (i : Instr) (m : Fin 8) (w : Fin 2) (word : Word) (checks : Bool × Bool) (code : ResultCode) (s : State),
    commandWrite i = some (m, w, word) → s.settled → (s.window m w).state ≠ .busy →
    portVerdict word (s.args m w) (s.master m).enabled m = none →
    handleChecks word (s.args m w) = some checks → s.handleVerdict m (s.args m w)[0] checks = some code →
    exec i s = .next (s.finish m w word code [])

/-- R164, R59, R89: ABORT by the window's state and command. R165: the three outcomes of RESULT_TAKEN. R166, R62: a window reset returns the window to its power-on values and takes its waiting claim
out of the queue; the departure is a scan trigger. -/
def Obligations.WindowControls : Prop :=
  ∀ (m : Fin 8) (w : Fin 2) (s : State), s.settled →
    ((s.window m w).state ≠ .busy →
      exec (.abort m w) s = .next (s.setWindow m w { s.window m w with abortNotTaken := true }))
    ∧ ((s.window m w).state = .busy → (∃ q ∈ s.claims, q.master = m ∧ q.window = w) →
        exec (.abort m w) s = .next
          (({ s with claims := s.claims.filter fun q => !(q.master == m && q.window == w) }.setWindow m w
            { s.window m w with
              state := .done, code := some .aborted, words := resultWords [], drainSet := 0, released := 0, drained := 0
              completionPending := true }).scan))
    ∧ ((s.window m w).state = .busy → (∀ q ∈ s.claims, ¬ (q.master = m ∧ q.window = w)) → (s.window m w).drainSet ≠ 0 →
        exec (.abort m w) s = .next (s.setWindow m w
          { s.window m w with
            state := .done, code := some .aborted, words := resultWords [(s.window m w).drainSet], drainSet := 0
            released := 0, drained := 0, completionPending := true }))
    ∧ ((s.window m w).state = .done → exec (.resultTaken m w) s = .next (s.setWindow m w
      { s.window m w with
        state := .idle, code := none, words := Vector.replicate 12 0, collision := false, abortNotTaken := false
        completionPending := false }))
    ∧ ((s.window m w).state = .busy →
        exec (.resultTaken m w) s = .next (s.setWindow m w { s.window m w with collision := true }))
    ∧ ((s.window m w).state = .idle →
        exec (.resultTaken m w) s = .next (s.setWindow m w
          { s.window m w with collision := false, abortNotTaken := false }))
    ∧ ((∀ q ∈ s.claims, ¬ (q.master = m ∧ q.window = w)) →
        exec (.windowReset m w) s = .next (s.setWindow m w (State.reset.window m w)))
    ∧ ((∃ q ∈ s.claims, q.master = m ∧ q.window = w) →
        exec (.windowReset m w) s = .next
          (({ s with claims := s.claims.filter fun q => !(q.master == m && q.window == w) }.setWindow m w
            (State.reset.window m w)).scan))

/-- R160, R172: a write to an argument word, and a write to a word that takes none or a control value that names no control. -/
def Obligations.ArgumentAndDiscardedWrites : Prop :=
  ∀ (m : Fin 8) (w : Fin 2) (s : State), s.settled →
    (∀ (index : Fin 8) (value : Word),
      ((s.window m w).state = .busy → exec (.argumentWordWrite m w index value) s =
        .next (s.setWindow m w { s.window m w with collision := true }))
      ∧ ((s.window m w).state ≠ .busy → exec (.argumentWordWrite m w index value) s =
          .next (s.setWindow m w { s.window m w with args := (s.window m w).args.set index value })))
    ∧ ∀ (address : BitVec 6) (value : Word), wellFormed (.discardedWrite m address value) = true →
        exec (.discardedWrite m address value) s = .next s

/-- R160, R172: what a read of each word address of window `w` returns to its master, and that the addresses beyond hold no word. -/
def Obligations.BusReadsShowTheWindow : Prop :=
  ∀ (m : Fin 8) (w : Fin 2) (s : State), s.resetAsserted = false →
    (∀ i : Fin 8, s.busRead m (BitVec.ofNat 6 (32 * w.val + i.val)) = (s.args m w)[i])
    ∧ s.busRead m (BitVec.ofNat 6 (32 * w.val + 8)) = (s.window m w).command
    ∧ s.busRead m (BitVec.ofNat 6 (32 * w.val + 9)) = 0
    ∧ s.busRead m (BitVec.ofNat 6 (32 * w.val + 10)) =
        0#10 ++ BitVec.ofBool (s.master m).enabled ++ BitVec.ofBool (s.window m w).completionPending
          ++ BitVec.ofBool (s.window m w).abortNotTaken ++ BitVec.ofBool (s.window m w).collision
          ++ (match (s.window m w).state with | .idle => 0#2 | .busy => 1#2 | .done => 2#2)
    ∧ s.busRead m (BitVec.ofNat 6 (32 * w.val + 11)) =
        (match (s.window m w).code with | none => 0x00FF | some code => code.value)
    ∧ (∀ i : Fin 12, s.busRead m (BitVec.ofNat 6 (32 * w.val + 12 + i.val)) = (s.window m w).words[i])
    ∧ ∀ i : Fin 8, s.busRead m (BitVec.ofNat 6 (32 * w.val + 24 + i.val)) = 0

/-! ## Claims and the grant queue -/

/-- R49: the six checks of CLAIM in their order, each with its result words; a refused claim changes nothing but its window. -/
def Obligations.ClaimChecksInOrder : Prop :=
  ∀ (m : Fin 8) (w : Fin 2) (s : State), s.canTake m w → badAtPort 0x10 (s.args m w) = false →
    (claimMalformed (s.args m w) → exec (.claim m w) s = .next (s.finish m w 0x10 .badArgument []))
    ∧ (¬ claimMalformed (s.args m w) →
      (∀ c : Fin 16, isLowest (s.args m w)[0] (s.forbids m) c →
        exec (.claim m w) s = .next (s.finish m w 0x10 .notPermitted [natWord c.val]))
      ∧ ((∀ c : Fin 16, (s.args m w)[0].getLsbD c.val = true → ¬ s.forbids m c) →
        (s.claimBaseStopped (s.args m w) →
          exec (.claim m w) s = .next (s.finish m w 0x10 .baseUnavailable [s.baseB.state.code]))
        ∧ (¬ s.claimBaseStopped (s.args m w) →
          (∀ (c : Fin 16) (n : Fin 64), isLowest (s.args m w)[0] (fun d => ∃ k : Fin 64, s.governedBy m d k) c → s.governedBy m c n →
            exec (.claim m w) s = .next (s.finish m w 0x10 .ownConflict [natWord c.val, s.handle n]))
          ∧ ((∀ c : Fin 16, (s.args m w)[0].getLsbD c.val = true → ∀ n : Fin 64, ¬ s.governedBy m c n) →
            (∀ k : Fin 8, claimLine (s.args m w) = some k → s.lineTaken k →
              exec (.claim m w) s = .next (s.finish m w 0x10 .lineBusy [natWord k.val]))
            ∧ ((∀ k : Fin 8, claimLine (s.args m w) = some k → ¬ s.lineTaken k) → (s.master m).quota ≤ (s.master m).count →
              exec (.claim m w) s = .next (s.finish m w 0x10 .quota
                [natWord (s.master m).count, natWord (s.master m).quota]))))))

/-- R50, R11 to R13: a claim that passes its checks and is grantable now is granted at once, whatever its wait limit, on the lowest FREE
record; nothing else changes. -/
def Obligations.GrantableClaimIsGrantedAtOnce : Prop :=
  ∀ (m : Fin 8) (w : Fin 2) (n : Fin 64) (s : State), s.canTake m w → s.claimPasses m (s.args m w) →
    s.claimChannelsFree (s.args m w) → s.isLowestFree n →
    exec (.claim m w) s = .next
      (let a := s.args m w
       let now := s.now (claimBase a)
       let l := s.claimRecord m a n
       let t := s.setLease n l
       let queue := insertByDistance (fun k => ((t.lease k).expiry - now).toInt) n (s.expiryQueue (claimBase a))
       let u := (t.setExpiryQueue (claimBase a) queue).mapChannels fun c ch => if a[0].getLsbD c.val then ch.taken n else ch
       let v := { u with lines := tabulate fun k => if claimLine a = some k then { s.line k with bound := some n } else s.line k }
       (v.recount m fun count => count + 1).finish m w 0x10 .ok [handleWord n l.generation, l.expiry.extractLsb' 0 16, l.expiry.extractLsb' 16 16])

/-- R52: a claim that passes its checks, is not grantable now and may wait joins the tail of the queue with the next arrival number and
its deadline; its window stays BUSY and nothing else changes. -/
def Obligations.WaitingClaimJoinsTheQueue : Prop :=
  ∀ (m : Fin 8) (w : Fin 2) (s : State), s.canTake m w → s.claimPasses m (s.args m w) → s.claimMustWait (s.args m w) →
    claimWaitLimit (s.args m w) ≠ 0 → s.claims.length < 12 →
    exec (.claim m w) s = .next
      (let a := s.args m w
       let q : Claim :=
        { master := m, window := w, channels := a[0], base := claimBase a, term := claimTerm a, grace := a[3],
          graceAction := if a[4].getLsbD 2 then .park else .hold, urgency := a[4].extractLsb' 4 3,
          boundaryNotices := a[4].getLsbD 8, line := claimLine a,
          deadline := if claimWaitLimit a = 16777215 then none else some (s.baseA.counter + (claimWaitLimit a).setWidth 32),
          arrival := s.arrivals + 1 }
       { s with arrivals := s.arrivals + 1, claims := s.claims ++ [q] }.setWindow m w
         ((s.window m w).waitsWith 0x10 (s.window m w).drainSet (s.window m w).released (s.window m w).drained))

/-- R51, R52: a claim that passes its checks and is not grantable now is refused CHANNEL_BUSY, CHANNEL_RESERVED or TABLE_FULL, the first
that matches, with wait limit 0, and QUEUE_FULL where it may wait and 12 claims wait already. -/
def Obligations.ClaimThatCannotWaitIsRefused : Prop :=
  ∀ (m : Fin 8) (w : Fin 2) (s : State), s.canTake m w → s.claimPasses m (s.args m w) →
    (claimWaitLimit (s.args m w) = 0 →
      (∀ c : Fin 16, isLowest (s.args m w)[0] (fun d => (s.channel d).state ≠ .idle) c →
        exec (.claim m w) s = .next (s.finish m w 0x10 .channelBusy [natWord c.val, (s.channel c).state.code]))
      ∧ ((∀ c : Fin 16, (s.args m w)[0].getLsbD c.val = true → (s.channel c).state = .idle) →
        (∀ c : Fin 16, isLowest (s.args m w)[0] s.reservedChannel c →
          exec (.claim m w) s = .next (s.finish m w 0x10 .channelReserved
            [natWord c.val, natWord (s.claims.countP fun q => q.channels.getLsbD c.val)]))
        ∧ ((∀ c : Fin 16, (s.args m w)[0].getLsbD c.val = true → ¬ s.reservedChannel c) →
            (∀ n : Fin 64, (s.lease n).state ≠ .free) → exec (.claim m w) s = .next (s.finish m w 0x10 .tableFull []))))
    ∧ (claimWaitLimit (s.args m w) ≠ 0 → s.claimMustWait (s.args m w) → 12 ≤ s.claims.length →
        exec (.claim m w) s = .next (s.finish m w 0x10 .queueFull []))

/-- R55: once a scan is done, the claims that remain keep their order, and none of them has all its channels IDLE, none of them named by
an older waiting claim, a FREE record available and its master below quota; a second scan grants nothing. Every step keeps this of the
waiting claims: each event that could make one grantable is a scan trigger (R54), and the scan closes that event. -/
def Obligations.ScanLeavesNoGrantableClaim : Prop :=
  ∀ s : State,
    s.scan.claims.Sublist s.claims
    ∧ (∀ (older newer : List Claim) (q : Claim), s.scan.claims = older ++ q :: newer →
        ¬ ((∀ c : Fin 16, q.channels.getLsbD c.val = true →
              (s.scan.channel c).state = .idle ∧ ∀ p ∈ older, p.channels.getLsbD c.val = false)
            ∧ (∃ n : Fin 64, (s.scan.lease n).state = .free)
            ∧ (s.scan.master q.master).count < (s.scan.master q.master).quota))
    ∧ s.scan.scan = s.scan
    ∧ ∀ t : State, s.noneGrantable → step s = .next t → t.noneGrantable

/-! ## Holding, ending and handing over a lease -/

/-- R67 to R69, R71: RENEW takes any staged term, sets the stamp one term ahead of the base's present value, requeues the lease, returns it
to HELD with its PARKED channels ACTIVE, and changes nothing else. -/
def Obligations.RenewSetsTheStampOneTermAhead : Prop :=
  ∀ (m : Fin 8) (w : Fin 2) (n : Fin 64) (s : State), s.canTake m w → s.holdsLive m (s.args m w)[0] n →
    exec (.renew m w) s = .next
      (let t := s.oneTermAhead n (s.now (s.lease n).base)
       t.finish m w 0x11 .ok
        [(t.lease n).expiry.extractLsb' 0 16, (t.lease n).expiry.extractLsb' 16 16, (t.lease n).term.extractLsb' 0 16,
         ((t.lease n).term.extractLsb' 16 8).setWidth 16, (t.lease n).renewals])

/-- R80, R81: an edge that arrives sets the pin's level and, if the setting detects it, is captured with the values of both bases; the
oldest captured edge is then taken: its base A value becomes the last edge stamp, and it renews the bound lease. -/
def Obligations.DetectedEdgeRenewsTheBoundLease : Prop :=
  ∀ (k : Fin 8) (rising : Bool) (s : State), s.settled →
    (let detected : Bool := match (s.line k).edge with
       | .off => false | .rising => rising | .falling => !rising | .both => true
     (detected = false → ∀ phase : EdgePhase, phase ≠ .isTaken →
        exec (.renewLineEdge k rising phase) s = .next (s.setLine k { s.line k with level := rising }))
     ∧ (detected = true → exec (.renewLineEdge k rising .arrives) s = .next
          (s.setLine k { s.line k with
            level := rising, captured := (s.line k).captured ++ [{ stampA := s.baseA.counter, stampB := s.baseB.counter }] }))
     ∧ (detected = true → ∀ t : State, exec (.renewLineEdge k rising .arrives) s = .next t →
          exec (.renewLineEdge k rising .arrivesAndIsTaken) s = exec (.renewLineEdge k rising .isTaken) t))
    ∧ ((s.line k).captured = [] → exec (.renewLineEdge k rising .isTaken) s = .next s)
    ∧ ∀ (x : Capture) (rest : List Capture), (s.line k).captured = x :: rest →
        ((s.line k).bound = none → exec (.renewLineEdge k rising .isTaken) s =
          .next (s.setLine k { s.line k with captured := rest, lastEdge := x.stampA }))
        ∧ ∀ n : Fin 64, (s.line k).bound = some n → (s.lease n).live = true → exec (.renewLineEdge k rising .isTaken) s =
            .next ((s.setLine k { s.line k with captured := rest, lastEdge := x.stampA }).oneTermAhead n
              (if (s.lease n).base = .a then x.stampA else x.stampB))

/-- R70, R72, R73: SET_TERM stages a term, or withdraws one; SET_OPTIONS sets the options its select word names. Neither changes anything else. -/
def Obligations.SetTermAndSetOptions : Prop :=
  ∀ (m : Fin 8) (w : Fin 2) (n : Fin 64) (s : State), s.canTake m w → s.holdsLive m (s.args m w)[0] n →
    (let a := s.args m w
     let l := s.lease n
     let given : Ticks := a[2].extractLsb' 0 8 ++ a[1]
     let shown : Ticks := given
     exec (.setTerm m w) s = .next
      ((s.setLease n { l with stagedTerm := if given = 0 then none else some given }).finish m w 0x12 .ok
        [l.term.extractLsb' 0 16, (l.term.extractLsb' 16 8).setWidth 16, shown.extractLsb' 0 16,
         (shown.extractLsb' 16 8).setWidth 16, if given = 0 then 0 else 1]))
    ∧ (badAtPort 0x13 (s.args m w) = false →
       let a := s.args m w
       let l := s.lease n
       let l' : Lease :=
        { l with
          grace := if a[1].getLsbD 0 then a[2] else l.grace
          graceAction := if a[1].getLsbD 1 then (if a[3] = 1 then .park else .hold) else l.graceAction
          urgency := if a[1].getLsbD 2 then a[4].extractLsb' 0 3 else l.urgency
          boundaryNotices := if a[1].getLsbD 3 then decide (a[5] = 1) else l.boundaryNotices }
       exec (.setOptions m w) s = .next
        ((s.setLease n l').finish m w 0x13 .ok
          [l'.grace, if l'.graceAction = .park then 1 else 0, l'.urgency.setWidth 16, if l'.boundaryNotices then 1 else 0]))

/-- R75: ADD_CHANNELS takes IDLE, unreserved, permitted channels into the lease; R77: DROP_CHANNELS releases channels by the table of R118, and a
scan follows when one of them reached IDLE. -/
def Obligations.AddAndDropChannels : Prop :=
  ∀ (m : Fin 8) (w : Fin 2) (n : Fin 64) (s : State), s.canTake m w → s.holdsLive m (s.args m w)[0] n →
    (let a := s.args m w
     let l := s.lease n
     a[1] ≠ 0 →
     (∀ c : Fin 16, a[1].getLsbD c.val = true → ¬ s.forbids m c ∧ (s.channel c).state = .idle ∧ ¬ s.reservedChannel c) →
     exec (.addChannels m w) s = .next
      (((s.setLease n { l with channels := l.channels ||| a[1] }).mapChannels fun c ch =>
          if a[1].getLsbD c.val then ch.taken n else ch).finish m w 0x14 .ok [l.channels ||| a[1]]))
    ∧ (let a := s.args m w
       let l := s.lease n
       a[1] ≠ 0 → a[1] &&& l.channels = a[1] → l.channels &&& ~~~a[1] ≠ 0 →
       (∀ c : Fin 16, a[1].getLsbD c.val = true → (s.channel c).state = .active ∨ (s.channel c).state = .parked) →
       let t := (((s.setLease n { l with channels := l.channels &&& ~~~a[1] }).mapChannels fun c ch =>
          if a[1].getLsbD c.val then ch.afterRelease else ch).finish m w 0x15 .ok [l.channels &&& ~~~a[1]])
       exec (.dropChannels m w) s = .next
        (if ∃ c : Fin 16, a[1].getLsbD c.val = true ∧ ¬ (s.channel c).wouldDrain then t.scan else t))

/-- R86 to R88: RELEASE frees the record at once and a scan follows. The window completes OK in the same event, unless its drain option is
WAIT and a channel drains; then it stays BUSY with the drain set. -/
def Obligations.ReleaseFreesTheLease : Prop :=
  ∀ (m : Fin 8) (w : Fin 2) (n : Fin 64) (drained : ChannelSet) (s : State), s.canTake m w → s.holdsLive m (s.args m w)[0] n →
    isSetOf drained (fun c => (s.lease n).channels.getLsbD c.val = true ∧ (s.channel c).wouldDrain) →
    (((s.args m w)[1] = 0 ∨ ((s.args m w)[1] = 1 ∧ drained = 0)) →
      exec (.release m w) s = .next (((s.freedFrom n m).finish m w 0x16 .ok [(s.lease n).channels, drained]).scan))
    ∧ ((s.args m w)[1] = 1 → drained ≠ 0 →
      exec (.release m w) s = .next
        (((s.freedFrom n m).setWindow m w ((s.window m w).waitsWith 0x16 drained (s.lease n).channels drained)).scan))

/-- R93, R94, R90: RETIRE and PURGE free a LAPSED record and report its ending; REVOKE lapses a live lease of any holder with end reason REVOKED.
Live leases are refused WRONG_STATE by RETIRE and PURGE. That the holder word of PURGE and REVOKE is the plain number, with no presence
bit, is the model's reading (log 15). -/
def Obligations.RetirePurgeAndRevoke : Prop :=
  ∀ (m k : Fin 8) (w : Fin 2) (n : Fin 64) (s : State), s.canTake m w → s.names (s.args m w)[0] n → (s.lease n).holder = some k →
    (let l := s.lease n
     let ending : List Word := [endReasonCode l.endReason, l.notices.setWidth 16, l.noticeCount]
     (l.state = .lapsed →
       (k = m → exec (.retire m w) s = .next (((s.freedFrom n k).finish m w 0x17 .ok ending).scan))
       ∧ (m = 0 → exec (.purge m w) s = .next (((s.freedFrom n k).finish m w 0x3E .ok (natWord k.val :: ending)).scan)))
     ∧ ((l.state = .held ∨ l.state = .grace) →
       (k = m → exec (.retire m w) s = .next (s.finish m w 0x17 .wrongState [l.state.code]))
       ∧ (m = 0 → exec (.purge m w) s = .next (s.finish m w 0x3E .wrongState [l.state.code]))
       ∧ (m = 0 → (∀ c : Fin 16, l.channels.getLsbD c.val = true → (s.channel c).state = .active ∨ (s.channel c).state = .parked) →
           ∀ drained : ChannelSet, isSetOf drained (fun c => l.channels.getLsbD c.val = true ∧ (s.channel c).wouldDrain) →
           let t := (s.lapsedBy n .revoked).finish m w 0x3D .ok [natWord k.val, l.channels, drained]
           exec (.revoke m w) s = .next
            (if ∃ c : Fin 16, l.channels.getLsbD c.val = true ∧ ¬ (s.channel c).wouldDrain then t.scan else t))))

/-- R104, R105: OFFER ends any earlier offer of the lease and puts it at the tail of the target's list; WITHDRAW ends the offer, if one stands. -/
def Obligations.OfferAndWithdraw : Prop :=
  ∀ (m : Fin 8) (w : Fin 2) (n : Fin 64) (s : State), s.canTake m w → s.holdsLive m (s.args m w)[0] n →
    (∀ target : Fin 8, (s.args m w)[1] = natWord target.val → target ≠ m → (s.master target).enabled = true →
      (∀ c : Fin 16, (s.lease n).channels.getLsbD c.val = true → ¬ s.forbids target c) →
      ((s.offerList target).length < 4 ∨ n ∈ s.offerList target) →
      let old := (s.lease n).offerTarget
      let lists : Vector (List (Fin 64)) 8 := tabulate fun k =>
        (if old = some k then (s.offerList k).filter (· != n) else s.offerList k) ++ (if k = target then [n] else [])
      exec (.offer m w) s = .next
        (({ s with offers := lists }.setLease n { s.lease n with offerTarget := some target }).finish m w 0x18 .ok
          [natWord lists[target].length, match old with | none => 0 | some k => 0x8000 ||| natWord k.val]))
    ∧ (let old := (s.lease n).offerTarget
       exec (.withdraw m w) s = .next
        (({ s with offers := tabulate fun k => if old = some k then (s.offerList k).filter (· != n) else s.offerList k }.setLease n
          { s.lease n with offerTarget := none }).finish m w 0x19 .ok
            [match old with | none => 0 | some k => 0x8000 ||| natWord k.val]))

/-- R107: ACCEPT moves the lease to the target, its notice set becoming TRANSFERRED alone, and a scan follows the fall of the former holder's
count; R108: DECLINE ends the offer and raises OFFER_DECLINED. Everything else is kept. -/
def Obligations.AcceptAndDecline : Prop :=
  ∀ (m k : Fin 8) (w : Fin 2) (n : Fin 64) (s : State), s.canTake m w → s.names (s.args m w)[0] n →
    (s.lease n).offerTarget = some m → (s.lease n).holder = some k → k ≠ m →
    ((∀ c : Fin 16, (s.lease n).channels.getLsbD c.val = true → ¬ s.forbids m c) → (s.master m).count < (s.master m).quota →
      0 < (s.master k).count →
      let l := s.lease n
      let l' : Lease := { l with holder := some m, offerTarget := none, notices := 0b010000, noticeCount := l.noticeCount + 1 }
      let t := ((s.setOfferList m ((s.offerList m).filter (· != n))).setLease n l')
      exec (.accept m w) s = .next
        ((((t.recount k fun count => count - 1).recount m fun count => count + 1).finish m w 0x1A .ok
          [handleWord n l.generation, l.state.code, l.channels, baseCode l.base, l.expiry.extractLsb' 0 16,
           l.expiry.extractLsb' 16 16, l.noticeCount + 1]).scan))
    ∧ exec (.decline m w) s = .next
        (((s.setOfferList m ((s.offerList m).filter (· != n))).setLease n
          { s.lease n with
            offerTarget := none, notices := (s.lease n).notices ||| 0b100000
            noticeCount := (s.lease n).noticeCount + 1 }).finish m w 0x1B .ok [])

/-- R74, R76, R103, R106: the refusals of ADD_CHANNELS, DROP_CHANNELS, OFFER and ACCEPT in the order of their rules; nothing but the window
changes. -/
def Obligations.ChannelAndOfferRefusalsInOrder : Prop :=
  ∀ (m : Fin 8) (w : Fin 2) (n : Fin 64) (s : State), s.canTake m w →
    (s.holdsLive m (s.args m w)[0] n →
      ((s.args m w)[1] = 0 →
        exec (.addChannels m w) s = .next (s.finish m w 0x14 .badArgument [])
        ∧ exec (.dropChannels m w) s = .next (s.finish m w 0x15 .badArgument []))
      ∧ ((s.args m w)[1] ≠ 0 →
        (∀ c : Fin 16, isLowest (s.args m w)[1] (s.forbids m) c →
          exec (.addChannels m w) s = .next (s.finish m w 0x14 .notPermitted [natWord c.val]))
        ∧ ((∀ c : Fin 16, (s.args m w)[1].getLsbD c.val = true → ¬ s.forbids m c) →
          (∀ (c : Fin 16) (k : Fin 64), isLowest (s.args m w)[1] (fun d => ∃ j : Fin 64, s.governedBy m d j) c → s.governedBy m c k →
            exec (.addChannels m w) s = .next (s.finish m w 0x14 .ownConflict [natWord c.val, s.handle k]))
          ∧ ((∀ c : Fin 16, (s.args m w)[1].getLsbD c.val = true → ∀ k : Fin 64, ¬ s.governedBy m c k) →
            (∀ c : Fin 16, isLowest (s.args m w)[1] (fun d => (s.channel d).state ≠ .idle) c →
              exec (.addChannels m w) s = .next (s.finish m w 0x14 .channelBusy [natWord c.val, (s.channel c).state.code]))
            ∧ ((∀ c : Fin 16, (s.args m w)[1].getLsbD c.val = true → (s.channel c).state = .idle) →
              ∀ c : Fin 16, isLowest (s.args m w)[1] s.reservedChannel c →
                exec (.addChannels m w) s = .next (s.finish m w 0x14 .channelReserved
                  [natWord c.val, natWord (s.claims.countP fun q => q.channels.getLsbD c.val)]))))
        ∧ (∀ c : Fin 16, isLowest (s.args m w)[1] (fun d => (s.lease n).channels.getLsbD d.val = false) c →
          exec (.dropChannels m w) s = .next (s.finish m w 0x15 .wrongState [natWord c.val]))
        ∧ ((s.args m w)[1] = (s.lease n).channels →
          exec (.dropChannels m w) s = .next (s.finish m w 0x15 .wrongState [(s.lease n).channels])))
      ∧ (∀ target : Fin 8, (s.args m w)[1] = natWord target.val →
        (target = m → exec (.offer m w) s = .next (s.finish m w 0x18 .badArgument []))
        ∧ (target ≠ m →
          ((s.master target).enabled = false →
            exec (.offer m w) s = .next (s.finish m w 0x18 .masterDisabled [natWord target.val]))
          ∧ ((s.master target).enabled = true →
            (∀ c : Fin 16, isLowest (s.lease n).channels (s.forbids target) c →
              exec (.offer m w) s = .next (s.finish m w 0x18 .notPermitted [natWord c.val]))
            ∧ ((∀ c : Fin 16, (s.lease n).channels.getLsbD c.val = true → ¬ s.forbids target c) →
                4 ≤ (s.offerList target).length → n ∉ s.offerList target →
                exec (.offer m w) s = .next (s.finish m w 0x18 .offerListFull [natWord target.val]))))))
    ∧ (¬ (s.names (s.args m w)[0] (handleLease (s.args m w)[0])
          ∧ (s.lease (handleLease (s.args m w)[0])).offerTarget = some m) →
        exec (.accept m w) s = .next (s.finish m w 0x1A .noOffer [])
        ∧ exec (.decline m w) s = .next (s.finish m w 0x1B .noOffer []))
    ∧ (s.names (s.args m w)[0] n → (s.lease n).offerTarget = some m →
        (∀ c : Fin 16, isLowest (s.lease n).channels (s.forbids m) c →
          exec (.accept m w) s = .next (s.finish m w 0x1A .notPermitted [natWord c.val]))
        ∧ ((∀ c : Fin 16, (s.lease n).channels.getLsbD c.val = true → ¬ s.forbids m c) →
            (s.master m).quota ≤ (s.master m).count →
            exec (.accept m w) s = .next (s.finish m w 0x1A .quota
              [natWord (s.master m).count, natWord (s.master m).quota])))

/-- R21 to R23: RESET_TABLE frees every record with its generation kept, empties queues, lists and counts, takes every channel IDLE with its
configuration kept, unbinds every line, ends every wait ABORTED, and keeps everything else. That a drain wait it ends has every result
word 0 is the model's reading of R163 (log 16). -/
def Obligations.ResetTableClearsTheTable : Prop :=
  ∀ (w : Fin 2) (s : State), s.canTake 0 w → s.windowsKept →
    (∀ q ∈ s.claims, ¬ (q.master = 0 ∧ q.window = w)) →
    exec (.resetTable 0 w) s = .next
      (let ended := s.mapWindows fun k v x =>
        if (∃ q ∈ s.claims, q.master = k ∧ q.window = v) ∨ x.drainSet ≠ 0 then
          { x with
            state := .done, code := some .aborted, words := Vector.replicate 12 0, drainSet := 0, released := 0, drained := 0
            completionPending := true }
        else x
       { ended with
         leases := tabulate fun n => Lease.blank (s.lease n).generation
         offers := Vector.replicate 8 []
         masters := tabulate fun k => { s.master k with count := 0 }
         expiryA := []
         expiryB := []
         claims := []
         channels := tabulate fun c => (s.channel c).idled
         lines := tabulate fun k => { s.line k with bound := none } }.finish 0 w 0x3F .ok [])

/-! ## Queries -/

/-- R17 to R20, R65, R66, R84, R109, R176: the queries change nothing but their window, and their result words are these. -/
def Obligations.QueriesReportTheTables : Prop :=
  ∀ (m : Fin 8) (w : Fin 2) (s : State), s.canTake m w →
    (∀ n : Fin 64, handleLease (s.args m w)[0] = n →
      (handleGeneration (s.args m w)[0] = 0 ∨ s.names (s.args m w)[0] n) →
      let l := s.lease n
      let absent : Option (Fin 8) → Word := fun x => match x with | none => 0 | some k => 0x8000 ||| natWord k.val
      ((s.args m w)[1] = 0 → exec (.queryLease m w) s = .next (s.finish m w 0x30 .ok
        [handleWord n l.generation,
         0#2 ++ (endReasonCode l.endReason).setWidth 2 ++ 0#1 ++ l.urgency ++ 0#1 ++ BitVec.ofBool l.boundaryNotices
           ++ BitVec.ofBool (l.graceAction == .park) ++ BitVec.ofBool (l.base == .b) ++ 0#2 ++ l.state.code.setWidth 2,
         absent l.holder, l.channels, l.grace, absent l.line, absent l.offerTarget, l.notices.setWidth 16, l.noticeCount, l.renewals]))
      ∧ ((s.args m w)[1] = 1 → exec (.queryLease m w) s = .next (s.finish m w 0x30 .ok
        [handleWord n l.generation,
         BitVec.ofBool l.stagedTerm.isSome ++ 0#10 ++ BitVec.ofBool (l.base == .b) ++ 0#2 ++ l.state.code.setWidth 2,
         l.term.extractLsb' 0 16, (l.term.extractLsb' 16 8).setWidth 16,
         (l.stagedTerm.getD 0).extractLsb' 0 16, ((l.stagedTerm.getD 0).extractLsb' 16 8).setWidth 16,
         l.expiry.extractLsb' 0 16, l.expiry.extractLsb' 16 16, l.lastRenewal.extractLsb' 0 16, l.lastRenewal.extractLsb' 16 16,
         (s.now l.base).extractLsb' 0 16, (s.now l.base).extractLsb' 16 16])))
    ∧ (∀ c : Fin 16, (s.args m w)[0] = natWord c.val →
        ((s.channel c).state = .idle ∨ (s.channel c).state = .draining →
          exec (.findChannel m w) s = .next (s.finish m w 0x31 .ok
            [(s.channel c).state.code, 0, 0, natWord (s.claims.countP fun q => q.channels.getLsbD c.val)]))
        ∧ ((s.channel c).state = .active ∨ (s.channel c).state = .parked → ∀ (n : Fin 64) (k : Fin 8),
            (s.channel c).governing = some n → (s.lease n).holder = some k →
            exec (.findChannel m w) s = .next (s.finish m w 0x31 .ok
              [(s.channel c).state.code, 0x8000 ||| handleWord n (s.lease n).generation, 0x8000 ||| natWord k.val,
               natWord (s.claims.countP fun q => q.channels.getLsbD c.val)])))
    ∧ (∀ k : Fin 8, (s.args m w)[0] = natWord k.val →
        let tail : List Word := [(s.line k).lastEdge.extractLsb' 0 16, (s.line k).lastEdge.extractLsb' 16 16,
          natWord (s.claims.countP fun q => q.line == some k), if (s.line k).level then 1 else 0]
        ((s.line k).bound = none → exec (.queryLine m w) s =
          .next (s.finish m w 0x33 .ok ([(s.line k).edge.code, 0, 0, 0] ++ tail)))
        ∧ ∀ (n : Fin 64) (j : Fin 8), (s.line k).bound = some n → (s.lease n).holder = some j → exec (.queryLine m w) s =
            .next (s.finish m w 0x33 .ok
              ([(s.line k).edge.code, 1, handleWord n (s.lease n).generation, natWord j.val] ++ tail)))
    ∧ (m = 0 → ∀ p : Fin 12, (s.args m w)[0] = natWord p.val →
        (s.claims.length ≤ p.val → exec (.queryClaims m w) s =
          .next (s.finish m w 0x32 .ok [natWord s.claims.length, s.arrivals]))
        ∧ ∀ (older newer : List Claim) (q : Claim), s.claims = older ++ q :: newer → older.length = p.val → s.claims.length ≤ 12 →
            ∀ reason : BitVec 3,
            ((∃ c : Fin 16, q.channels.getLsbD c.val = true ∧ (s.channel c).state ≠ .idle) → reason = 1) →
            ((∀ c : Fin 16, q.channels.getLsbD c.val = true → (s.channel c).state = .idle) →
              ((∃ c : Fin 16, q.channels.getLsbD c.val = true ∧ ∃ r ∈ older, r.channels.getLsbD c.val = true) → reason = 2)
              ∧ ((∀ c : Fin 16, q.channels.getLsbD c.val = true → ∀ r ∈ older, r.channels.getLsbD c.val = false) →
                  ((∀ n : Fin 64, (s.lease n).state ≠ .free) → reason = 3)
                  ∧ ((∃ n : Fin 64, (s.lease n).state = .free) →
                      reason = if (s.master q.master).quota ≤ (s.master q.master).count then 4 else 0))) →
            exec (.queryClaims m w) s = .next (s.finish m w 0x32 .ok
              [1#1 ++ 0#4 ++ reason ++ 0#4 ++ BitVec.ofNat 4 s.claims.length, s.arrivals,
               0#2 ++ BitVec.ofBool q.boundaryNotices ++ BitVec.ofBool (q.graceAction == .park) ++ 0#3 ++ BitVec.ofBool (q.base == .b)
                 ++ 0#3 ++ BitVec.ofNat 1 q.window.val ++ 0#1 ++ BitVec.ofNat 3 q.master.val,
               q.channels, q.term.extractLsb' 0 16, 0#1 ++ q.urgency ++ 0#4 ++ q.term.extractLsb' 16 8, q.grace,
               (match q.line with | none => 0 | some k => 0x8000 ||| natWord k.val),
               (q.deadline.getD 0).extractLsb' 0 16, (q.deadline.getD 0).extractLsb' 16 16, q.arrival,
               if q.deadline = none then 0 else 1]))
    ∧ (∀ l : List (Fin 64), s.offerList m = l → l.length ≤ 4 →
        let at' (f : Fin 64 → Word) (i : Nat) : Word := match l[i]? with | none => 0 | some n => f n
        let byte (i : Nat) : BitVec 8 := match l[i]? with
          | none => 0
          | some n => 0#2 ++ (s.lease n).state.code.setWidth 2 ++ 0#1 ++ BitVec.ofNat 3 (((s.lease n).holder.map (·.val)).getD 0)
        let handleAt (n : Fin 64) : Word := handleWord n (s.lease n).generation
        let setAt (n : Fin 64) : Word := (s.lease n).channels
        exec (.listOffers m w) s = .next (s.finish m w 0x34 .ok
          [natWord l.length, at' handleAt 0, at' handleAt 1, at' handleAt 2, at' handleAt 3,
           at' setAt 0, at' setAt 1, at' setAt 2, at' setAt 3, byte 1 ++ byte 0, byte 3 ++ byte 2]))

/-- R37, R157, R176: READ_TIME reports both bases as they stand; NEXT_NOTICE reports the number of candidates and the presented item, with the
issuing window's own flag cleared. Neither changes anything but its window. The model's readings: the layout of NEXT_NOTICE's words
(log 15); the divisors READ_TIME reports are those last set (log 8). -/
def Obligations.ReadTimeAndNextNotice : Prop :=
  ∀ (m : Fin 8) (w : Fin 2) (s : State), s.canTake m w →
    exec (.readTime m w) s = .next (s.finish m w 0x50 .ok
      [s.baseA.counter.extractLsb' 0 16, s.baseA.counter.extractLsb' 16 16, s.baseB.counter.extractLsb' 0 16,
       s.baseB.counter.extractLsb' 16 16,
       0#6 ++ BitVec.ofBool s.baseB.honourFreeze ++ BitVec.ofBool s.baseA.honourFreeze ++ 0#1
         ++ BitVec.ofBool (s.freeze && s.baseB.honourFreeze) ++ BitVec.ofBool (s.freeze && s.baseA.honourFreeze)
         ++ BitVec.ofBool s.freeze ++ 0#2 ++ s.baseB.state.code.setWidth 2,
       s.baseA.divisor, s.baseB.divisor, s.baseB.stallLimit, s.baseB.stallWatch, natWord s.expiryA.length, natWord s.expiryB.length])
    ∧ (let t := s.setWindow m w { s.window m w with completionPending := false }
       exec (.nextNotice m w) s = .next (s.finish m w 0x40 .ok
        (natWord (t.candidates m).length :: match t.presented m with
          | none => [0, 0]
          | some (.device, u) => [1, natWord u, t.deviceNotice.code]
          | some (.window v, u) => [2, natWord u, 0, natWord v.val, match (t.window m v).code with | none => 0xFF | some code => code.value]
          | some (.lease n, u) => [3, natWord u, 0, 0, 0, handleWord n (t.lease n).generation, (t.lease n).state.code,
              (t.lease n).notices.setWidth 16, (t.lease n).noticeCount])))

/-! ## Waveforms -/

/-- R132 to R134, R142: SET_MODE, SET_LEVEL and FORCE by the mode the channel is in, with their refusals MODE_PATH and WRONG_MODE, and WRONG_STATE for a
channel outside the lease (R130). No other field and no notice changes. -/
def Obligations.ModeLevelAndForce : Prop :=
  ∀ (m : Fin 8) (w : Fin 2) (n : Fin 64) (c : Fin 16) (s : State), s.canTake m w → s.holdsLive m (s.args m w)[0] n →
    (s.args m w)[1] = natWord c.val →
    let a := s.args m w
    let ch := s.channel c
    let v := ch.wave
    let into (word : Word) (v' : Waveform) : State :=
      let t := s.setChannel c { ch with wave := v' }
      t.finish m w word .ok (t.waveformReport c)
    ((s.lease n).channels.getLsbD c.val = false →
      (badAtPort 0x20 a = false → exec (.setMode m w) s = .next (s.finish m w 0x20 .wrongState [ch.state.code]))
      ∧ (a[2].toNat ≤ 1 → exec (.setLevel m w) s = .next (s.finish m w 0x21 .wrongState [ch.state.code])
          ∧ exec (.force m w) s = .next (s.finish m w 0x25 .wrongState [ch.state.code])))
    ∧ ((s.lease n).channels.getLsbD c.val = true →
      (a[2] = 0 → exec (.setMode m w) s = .next (into 0x20 (match v.mode with
        | .level => v
        | .single => { v with mode := .level, level := v.flipFlop, rise := none, fall := none }
        | .periodic => { v with mode := .level, level := v.flipFlop, period := 0, width := 0, staged := none, position := 0 })))
      ∧ (a[2] = 1 → exec (.setMode m w) s = .next (match v.mode with
        | .level => into 0x20 { v with mode := .single, level := false, rise := none, fall := none }
        | .single => into 0x20 v
        | .periodic => s.finish m w 0x20 .modePath [2]))
      ∧ (a[2] = 2 → 2 ≤ a[3].toNat → exec (.setMode m w) s = .next (match v.mode with
        | .level => into 0x20 { v with
            mode := .periodic, level := false, period := a[3], width := a[4], staged := none, position := 0
            flipFlop := decide (a[4] ≠ 0) }
        | .single => s.finish m w 0x20 .modePath [1]
        | .periodic => into 0x20 v))
      ∧ (a[2].toNat ≤ 1 →
          exec (.setLevel m w) s = .next (match v.mode with
            | .level => into 0x21 { v with level := decide (a[2] = 1), flipFlop := decide (a[2] = 1) }
            | mode => s.finish m w 0x21 .wrongMode [mode.code])
          ∧ exec (.force m w) s = .next (match v.mode with
            | .level => into 0x25 { v with level := decide (a[2] = 1), flipFlop := decide (a[2] = 1) }
            | .single => into 0x25 { v with flipFlop := decide (a[2] = 1), rise := none, fall := none }
            | .periodic => s.finish m w 0x25 .wrongMode [2])))

/-- R135, R136: ARM_SINGLE sets each comparator by its selector; one that it armed with a stamp already reached matches at once, the fall
winning where both match, and SINGLE_DONE is raised when a match leaves no comparator armed. -/
def Obligations.ArmSingleMatchesReachedStamps : Prop :=
  ∀ (m : Fin 8) (w : Fin 2) (n : Fin 64) (c : Fin 16) (s : State), s.canTake m w → s.holdsLive m (s.args m w)[0] n →
    (s.args m w)[1] = natWord c.val → badAtPort 0x22 (s.args m w) = false → (s.lease n).channels.getLsbD c.val = true →
    (s.channel c).governing = some n →
    let a := s.args m w
    let v := (s.channel c).wave
    let riseStamp : Stamp := a[4] ++ a[3]
    let fallStamp : Stamp := a[7] ++ a[6]
    let riseNow := a[2] = 1 ∧ (s.baseA.counter - riseStamp).toNat < 2147483648
    let fallNow := a[5] = 1 ∧ (s.baseA.counter - fallStamp).toNat < 2147483648
    let v' : Waveform := { v with
      rise := if riseNow ∨ a[2] = 2 then none else if a[2] = 1 then some riseStamp else v.rise
      fall := if fallNow ∨ a[5] = 2 then none else if a[5] = 1 then some fallStamp else v.fall
      flipFlop := if fallNow then false else if riseNow then true else v.flipFlop }
    let t := s.setChannel c { s.channel c with wave := v' }
    let u := if (riseNow ∨ fallNow) ∧ v'.rise = none ∧ v'.fall = none then
        t.setLease n { s.lease n with notices := (s.lease n).notices ||| 0b001000, noticeCount := (s.lease n).noticeCount + 1 }
      else t
    (v.mode = .single → exec (.armSingle m w) s = .next (u.finish m w 0x22 .ok (t.waveformReport c)))
    ∧ (v.mode ≠ .single → exec (.armSingle m w) s = .next (s.finish m w 0x22 .wrongMode [v.mode.code]))

/-- R140, R141: STAGE_PERIODIC stages a pair or withdraws it; RESTART_PERIODIC starts a new period at once, taking any staged pair, and raises
BOUNDARY if the governing lease's option is ON. Outside PERIODIC mode both are refused WRONG_MODE. -/
def Obligations.StageAndRestartPeriodic : Prop :=
  ∀ (m : Fin 8) (w : Fin 2) (n : Fin 64) (c : Fin 16) (s : State), s.canTake m w → s.holdsLive m (s.args m w)[0] n →
    (s.args m w)[1] = natWord c.val → (s.lease n).channels.getLsbD c.val = true → (s.channel c).governing = some n →
    let a := s.args m w
    let v := (s.channel c).wave
    (v.mode ≠ .periodic →
      (a[2] ≠ 1 → exec (.stagePeriodic m w) s = .next (s.finish m w 0x23 .wrongMode [v.mode.code]))
      ∧ exec (.restartPeriodic m w) s = .next (s.finish m w 0x24 .wrongMode [v.mode.code]))
    ∧ (v.mode = .periodic →
      (a[2] ≠ 1 →
        let t := s.setChannel c { s.channel c with wave := { v with staged := if a[2] = 0 then none else some (a[2], a[3]) } }
        exec (.stagePeriodic m w) s = .next (t.finish m w 0x23 .ok (t.waveformReport c)))
      ∧ (let period := match v.staged with | none => v.period | some p => p.1
         let width := match v.staged with | none => v.width | some p => p.2
         let t := s.setChannel c { s.channel c with wave := { v with
            period := period, width := width, staged := none, position := 0, flipFlop := decide (width ≠ 0) } }
         let u := if (s.lease n).boundaryNotices then
            t.setLease n { s.lease n with
              notices := (s.lease n).notices ||| 0b000100, noticeCount := (s.lease n).noticeCount + 1 }
          else t
         exec (.restartPeriodic m w) s = .next (u.finish m w 0x24 .ok (t.waveformReport c))))

/-- R131, R176: the words of the waveform report. -/
def Obligations.WaveformReportWords : Prop :=
  ∀ (c : Fin 16) (s : State),
    let v := (s.channel c).wave
    let pair : Word × Word := match v.staged with | none => (0, 0) | some p => p
    let rise : Stamp := match v.rise with | none => 0 | some t => t
    let fall : Stamp := match v.fall with | none => 0 | some t => t
    s.waveformReport c =
      [0#2 ++ BitVec.ofBool v.fall.isSome ++ BitVec.ofBool v.rise.isSome ++ 0#3 ++ BitVec.ofBool v.staged.isSome ++ 0#2
         ++ BitVec.ofBool v.level ++ BitVec.ofBool v.flipFlop ++ 0#2
         ++ (match v.mode with | .level => 0#2 | .single => 1#2 | .periodic => 2#2),
       v.period, v.width, pair.1, pair.2, v.position, rise.extractLsb' 0 16, rise.extractLsb' 16 16, fall.extractLsb' 0 16,
       fall.extractLsb' 16 16, s.baseA.counter.extractLsb' 0 16, s.baseA.counter.extractLsb' 16 16]

/-! ## Notices, pins, time, lines, channels and masters -/

/-- R151, R152: ACK_NOTICES with the present count removes the kinds it names and keeps the count; with another count it is refused STALE_NOTICE.
R150: ACK_DEVICE clears the device notice and reports what it was. -/
def Obligations.AcknowledgeNotices : Prop :=
  ∀ (m : Fin 8) (w : Fin 2) (s : State), s.canTake m w →
    (∀ n : Fin 64, s.names (s.args m w)[0] n → (s.lease n).holder = some m → (s.args m w)[1].toNat ≤ 63 →
      ((s.lease n).noticeCount = (s.args m w)[2] →
        let kept : KindSet := (s.lease n).notices &&& ~~~ (s.args m w)[1].setWidth 6
        exec (.ackNotices m w) s = .next
          ((s.setLease n { s.lease n with notices := kept }).finish m w 0x41 .ok [kept.setWidth 16, (s.lease n).noticeCount]))
      ∧ ((s.lease n).noticeCount ≠ (s.args m w)[2] →
        exec (.ackNotices m w) s = .next
          (s.finish m w 0x41 .staleNotice [(s.lease n).notices.setWidth 16, (s.lease n).noticeCount])))
    ∧ (m = 0 → exec (.ackDevice m w) s = .next
        ({ s with deviceNotice := DeviceNotice.none }.finish m w 0x42 .ok [if s.deviceNotice = DeviceNotice.none then 0 else 1]))

/-- R28, R32: SET_PRESCALER and SET_BASE_B set the divisor for the advances after the next, and their other settings at once; the stall watch
restarts unless base B stays frozen, where it is held (log 9), and a limit of 0 holds it at 0. R33, R34: START_BASE_B and STOP_BASE_B by the state of base B and the work on it. -/
def Obligations.SupervisorSetsTheBases : Prop :=
  ∀ (w : Fin 2) (s : State), s.canTake 0 w →
    let a := s.args 0 w
    (badAtPort 0x51 a = false → exec (.setPrescaler 0 w) s = .next
      ({ s with baseA := { s.baseA with divisor := a[0], honourFreeze := decide (a[1] = 1) } }.finish 0 w 0x51 .ok []))
    ∧ (badAtPort 0x52 a = false → exec (.setBaseB 0 w) s = .next
      ({ s with baseB := { s.baseB with
          divisor := a[0], stallLimit := a[1], honourFreeze := decide (a[2] = 1)
          stallWatch := if a[1] = 0 then 0
            else if s.freeze = true ∧ s.baseB.honourFreeze = true ∧ a[2] = 1 then s.baseB.stallWatch else 0 } }.finish
        0 w 0x52 .ok []))
    ∧ (s.baseB.state = .running → exec (.startBaseB 0 w) s = .next (s.finish 0 w 0x53 .wrongState []))
    ∧ (s.baseB.state ≠ .running → exec (.startBaseB 0 w) s = .next
        ({ s with baseB := { s.baseB with state := .running, edgeCount := 0, stallWatch := 0 }, deviceNotice := DeviceNotice.none }.finish
          0 w 0x53 .ok []))
    ∧ (let leases := (List.finRange 64).countP fun n =>
        ((s.lease n).state == .held || (s.lease n).state == .grace) && (s.lease n).base == .b
       let claims := s.claims.countP fun q => q.base == .b
       (s.baseB.state = .running → leases = 0 → claims = 0 → exec (.stopBaseB 0 w) s = .next
          ({ s with baseB := { s.baseB with state := .stopped, edgeCount := 0, stallWatch := 0 } }.finish 0 w 0x54 .ok []))
       ∧ (¬ (s.baseB.state = .running ∧ leases = 0 ∧ claims = 0) → exec (.stopBaseB 0 w) s =
          .next (s.finish 0 w 0x54 .wrongState [natWord leases, natWord claims])))

/-- R83, R124, R125: CONFIG_LINE sets the edge setting of a line that is unbound and named by no claim; CONFIG_CHANNEL writes the whole
configuration of an IDLE channel that no claim names, and reports the one before. -/
def Obligations.ConfigLineAndChannel : Prop :=
  ∀ (w : Fin 2) (s : State), s.canTake 0 w →
    let a := s.args 0 w
    (∀ k : Fin 8, a[0] = natWord k.val → a[1].toNat ≤ 3 →
      (¬ s.lineTaken k → exec (.configLine 0 w) s = .next
        ((s.setLine k { s.line k with edge := match a[1].toNat with | 0 => .off | 1 => .rising | 2 => .falling | _ => .both }).finish
          0 w 0x60 .ok []))
      ∧ (∀ n : Fin 64, (s.line k).bound = some n →
          exec (.configLine 0 w) s = .next (s.finish 0 w 0x60 .lineBusy [handleWord n (s.lease n).generation]))
      ∧ (∀ (older newer : List Claim) (q : Claim), (s.line k).bound = none → s.claims = older ++ q :: newer → q.line = some k →
          (∀ r ∈ older, r.line ≠ some k) →
          exec (.configLine 0 w) s = .next (s.finish 0 w 0x60 .lineBusy [q.arrival])))
    ∧ (∀ c : Fin 16, a[0] = natWord c.val → badAtPort 0x61 a = false →
      let ch := s.channel c
      let g := ch.config
      ((ch.state ≠ .idle ∨ s.reservedChannel c) → exec (.configChannel 0 w) s = .next
        (s.finish 0 w 0x61 .channelBusy [ch.state.code, natWord (s.claims.countP fun q => q.channels.getLsbD c.val)]))
      ∧ (ch.state = .idle → ¬ s.reservedChannel c → exec (.configChannel 0 w) s = .next
        ((s.setChannel c { ch with config :=
            { polarity := if a[1] = 1 then .inverted else .normal
              safeLevel := if a[2] = 0 then .low else if a[2] = 1 then .high else .openLevel
              drive := if a[3] = 1 then .openDrain else .pushPull
              releaseStyle := if a[4] = 1 then .atBoundary else .immediate
              permitted := a[5].setWidth 8 } }).finish 0 w 0x61 .ok
          [if g.polarity = .inverted then 1 else 0,
           match g.safeLevel with | .low => 0 | .high => 1 | .openLevel => 2,
           if g.drive = .openDrain then 1 else 0, if g.releaseStyle = .atBoundary then 1 else 0, g.permitted.setWidth 16])))

/-- R169: both forms of CONFIG_MASTER write their fields and report the record; a scan follows a rise of quota or an enabling. -/
def Obligations.ConfigMasterWritesTheRecord : Prop :=
  ∀ (m : Fin 8) (w : Fin 2) (s : State), s.canTake m w →
    let a := s.args m w
    let words (x : Master) : List Word :=
      [if x.enabled then 1 else 0, if x.role = .supervisor then 0 else 1, natWord x.quota, natWord x.count,
       x.completionUrgency.setWidth 16, if x.interruptEnable then 1 else 0]
    (m = 0 → a[0] = 0 → badAtPort 0x70 a = false → ∀ target : Fin 8, a[1] = natWord target.val →
      let x : Master := { s.master target with
        enabled := (s.master target).enabled || a[2] == 1, quota := a[3].toNat, completionUrgency := a[4].extractLsb' 0 3
        interruptEnable := decide (a[5] = 1) }
      let t := (s.setMaster target x).finish m w 0x70 .ok (words x)
      exec (.configMasterSupervisor m w) s = .next
        (if (s.master target).quota < a[3].toNat ∨ ((s.master target).enabled = false ∧ a[2] = 1) then t.scan else t))
    ∧ (a[0] = 1 → badAtPort 0x70 a = false →
      let x : Master := { s.master m with completionUrgency := a[1].extractLsb' 0 3, interruptEnable := decide (a[2] = 1) }
      exec (.configMasterSelf m w) s = .next ((s.setMaster m x).finish m w 0x70 .ok (words x)))

/-- R170, R96, R97, R63: DISABLE_MASTER of an enabled master `k` frees its leases, withdraws the offers to it, removes its claims, resets its
windows and disables it, as one event; a scan follows exactly when a record was freed or a claim removed (R54, R96). A disabled
master is refused WRONG_STATE. -/
def Obligations.DisableMasterCutsTheMasterOff : Prop :=
  ∀ (w : Fin 2) (k : Fin 8) (s : State), s.canTake 0 w → k ≠ 0 → (s.args 0 w)[0] = natWord k.val →
    ((s.master k).enabled = false → exec (.disableMaster 0 w) s = .next (s.finish 0 w 0x71 .wrongState []))
    ∧ ((s.master k).enabled = true → s.kept →
        let words : List Word :=
          [natWord (s.master k).count, natWord (s.claims.countP fun q => q.master == k), natWord (s.offerList k).length]
        let t : State :=
          { (s.mapWindows fun j v x =>
              if j = k then State.reset.window j v else if j = 0 ∧ v = w then x.doneWith 0x71 .ok words else x) with
            leases := tabulate fun n =>
              if (s.lease n).holder = some k then Lease.blank (s.lease n).generation
              else if (s.lease n).offerTarget = some k then { s.lease n with offerTarget := none }
              else s.lease n
            channels := tabulate fun c =>
              if ∃ n : Fin 64, (s.channel c).governing = some n ∧ (s.lease n).holder = some k then (s.channel c).afterRelease
              else s.channel c
            lines := tabulate fun j =>
              if ∃ n : Fin 64, (s.line j).bound = some n ∧ (s.lease n).holder = some k then { s.line j with bound := none }
              else s.line j
            offers := tabulate fun j => if j = k then [] else (s.offerList j).filter fun n => (s.lease n).holder != some k
            expiryA := s.expiryA.filter fun n => (s.lease n).holder != some k
            expiryB := s.expiryB.filter fun n => (s.lease n).holder != some k
            claims := s.claims.filter fun q => q.master != k
            masters := tabulate fun j => if j = k then { s.master k with enabled := false, count := 0 } else s.master j }
        exec (.disableMaster 0 w) s = .next
          (if (∃ n : Fin 64, (s.lease n).holder = some k) ∨ (∃ q ∈ s.claims, q.master = k) then t.scan else t))

/-- R121, R122: the output pin by channel state, polarity, drive, flip-flop and safe level. A pin that shows a level other than its safe
level belongs to a channel that is ACTIVE or DRAINING. -/
def Obligations.OutputPinLevels : Prop :=
  ∀ s : State, s.resetAsserted = false →
    (∀ c : Fin 16,
      let ch := s.channel c
      (ch.state = .idle ∨ ch.state = .parked →
        s.outPin c = match ch.config.safeLevel with | .low => .low | .high => .high | .openLevel => .released)
      ∧ (ch.state = .active ∨ ch.state = .draining →
        s.outPin c = match ch.config.polarity, ch.config.drive, ch.wave.flipFlop with
          | .normal, .pushPull, false => .low
          | .normal, .pushPull, true => .high
          | .inverted, .pushPull, false => .high
          | .inverted, .pushPull, true => .low
          | .normal, .openDrain, false => .low
          | .normal, .openDrain, true => .released
          | .inverted, .openDrain, false => .released
          | .inverted, .openDrain, true => .low))
    ∧ s.pinsSafe

/-- R154 to R156: the presented item is a candidate of the highest urgency, the first of these in the order device notice, window 0, window 1,
leases by number; INT is asserted exactly while the interrupt enable is on and a candidate stands. -/
def Obligations.PresentedItemAndInterruptLine : Prop :=
  ∀ (m : Fin 8) (s : State), s.resetAsserted = false →
    let urgency : Item → Option Nat := fun x => match x with
      | .device => if m = 0 ∧ s.deviceNotice = .baseBStalled then some 7 else none
      | .window v => if (s.window m v).completionPending = true ∧ (s.master m).completionUrgency ≠ 0 then
          some (s.master m).completionUrgency.toNat else none
      | .lease n => if (s.lease n).state ≠ .free ∧ (s.lease n).holder = some m ∧ (s.lease n).notices ≠ 0 ∧ (s.lease n).urgency ≠ 0 then
          some (s.lease n).urgency.toNat else none
    let place : Item → Nat := fun x => match x with | .device => 0 | .window v => 1 + v.val | .lease n => 3 + n.val
    (∀ (x : Item) (u : Nat), (x, u) ∈ s.candidates m ↔ urgency x = some u)
    ∧ (s.presented m = none ↔ ∀ x : Item, urgency x = none)
    ∧ (∀ (x : Item) (u : Nat), s.presented m = some (x, u) ↔
        urgency x = some u ∧ ∀ (y : Item) (v : Nat), urgency y = some v → v < u ∨ (v = u ∧ place x ≤ place y))
    ∧ (s.intPin m = true ↔ ((s.master m).interruptEnable = true ∧ ∃ (x : Item) (u : Nat), urgency x = some u))

/-! ## Pins and internal events -/

/-- R27, R29, R30, R35: a clock period, a TREF edge and a change of FREEZE, on a state with no tick due. -/
def Obligations.PinsDriveTheBases : Prop :=
  ∀ s : State, s.settled →
    (s.frozenA = true → exec .systemClockPeriod s = .next s)
    ∧ (s.frozenA = false → exec .systemClockPeriod s = .next { s with baseA := { s.baseA with count := s.baseA.count + 1 } })
    ∧ (s.baseB.state = .running → s.frozenB = false → exec .trefEdge s =
        .next { s with baseB := { s.baseB with edgeCount := s.baseB.edgeCount + 1, stallWatch := 0 } })
    ∧ (¬ (s.baseB.state = .running ∧ s.frozenB = false) → exec .trefEdge s = .next s)
    ∧ exec (.freeze true) s = .next { s with freeze := true }
    ∧ exec (.freeze false) s = .next
        { s with
          freeze := false
          baseB := if s.freeze = true ∧ s.baseB.honourFreeze = true then { s.baseB with stallWatch := 0 } else s.baseB }

/-- R27, R28, R30, R138: a due A-tick advances base A by one, takes the divisor last set, moves every PERIODIC position and the running stall
watch, and leaves everything else; R29, R32: a due B-tick advances base B by one. No tick happens while its count is short
of the divisor or its base is frozen. The model's: the divisor in use (log 7), and that a row whose tick is not due changes nothing
(log 2). -/
def Obligations.TicksAdvanceTheBases : Prop :=
  ∀ s : State, s.resetAsserted = false →
    ((s.freeze = false ∨ s.baseA.honourFreeze = false) → s.baseA.divisorInUse.toNat ≤ s.baseA.count →
      exec .aTick s = .next
        { (s.mapChannels fun _ ch => if ch.wave.mode = .periodic then
            { ch with wave := { ch.wave with position := ch.wave.position + 1 } } else ch) with
          baseA := { s.baseA with counter := s.baseA.counter + 1, count := 0, divisorInUse := s.baseA.divisor }
          baseB := { s.baseB with stallWatch :=
            if s.baseB.state = .running ∧ (s.freeze = false ∨ s.baseB.honourFreeze = false) ∧ s.baseB.stallLimit ≠ 0 then
              s.baseB.stallWatch + 1 else s.baseB.stallWatch } })
    ∧ ((s.frozenA = true ∨ s.baseA.count < s.baseA.divisorInUse.toNat) →
        exec .aTick s = .next s
        ∧ (s.baseB.state = .running → s.frozenB = false → s.baseB.divisorInUse.toNat ≤ s.baseB.edgeCount →
            exec .bTick s = .next { s with baseB := { s.baseB with
              counter := s.baseB.counter + 1, edgeCount := 0, divisorInUse := s.baseB.divisor } })
        ∧ (¬ (s.baseB.state = .running ∧ s.frozenB = false ∧ s.baseB.divisorInUse.toNat ≤ s.baseB.edgeCount) →
            exec .bTick s = .next s))

/-- R40 to R42: an expiry event acts on the head of its queue alone, and only if its stamp is reached: a HELD lease with grace enters grace, its
stamp moved on by the grace and its ACTIVE channels PARKED under PARK; any other live head lapses EXPIRED, a scan following when a
channel reached IDLE. Parts of an A-tick may be open: that the event may be taken between them is the model's reading (log 3), as is
that it acts when its row comes (log 6). -/
def Obligations.ExpiryEventActsOnTheHead : Prop :=
  ∀ (base : Base) (s : State), s.resetAsserted = false → s.aTickDue = false → s.bTickDue = false →
    (s.expiryQueue base = [] → exec (.expiryEvent base) s = .next s)
    ∧ ∀ (n : Fin 64) (rest : List (Fin 64)), s.expiryQueue base = n :: rest → (s.lease n).base = base →
        let l := s.lease n
        let reachedNow : Prop := (s.now base - l.expiry).toNat < 2147483648
        (¬ reachedNow → exec (.expiryEvent base) s = .next s)
        ∧ (reachedNow → l.state = .held → l.grace ≠ 0 →
          let t := s.setLease n
            { l with
              state := .grace, expiry := l.expiry + l.grace.setWidth 32, notices := l.notices ||| 0b000001
              noticeCount := l.noticeCount + 1 }
          let u := t.setExpiryQueue base
            (insertByDistance (fun k => ((t.lease k).expiry - s.now base).toInt) n ((s.expiryQueue base).filter (· != n)))
          exec (.expiryEvent base) s = .next (u.mapChannels fun c ch =>
            if l.graceAction = .park ∧ l.channels.getLsbD c.val = true ∧ ch.state = .active then { ch with state := .parked } else ch))
        ∧ (reachedNow → (l.state = .grace ∨ (l.state = .held ∧ l.grace = 0)) →
          (∀ c : Fin 16, l.channels.getLsbD c.val = true → (s.channel c).state = .active ∨ (s.channel c).state = .parked) →
          exec (.expiryEvent base) s = .next
            (if ∃ c : Fin 16, l.channels.getLsbD c.val = true ∧ ¬ (s.channel c).wouldDrain then (s.lapsedBy n .expired).scan
             else s.lapsedBy n .expired))

/-- R31, R44 to R46: a stall event, when the running watch has reached the limit, stalls base B, lapses every lease in its queue with BASE_STALLED (its
channels released, its line unbound, its offer withdrawn), ends every claim on it BASE_UNAVAILABLE, and sets the device notice; a scan
follows exactly when a channel reached IDLE or a claim left (R54). That the row changes nothing otherwise is the model's choice
(log 2). -/
def Obligations.StallEndsTheWorkOnBaseB : Prop :=
  ∀ s : State, s.resetAsserted = false → s.aTickDue = false → s.bTickDue = false →
    (¬ (s.watchRuns = true ∧ s.baseB.stallLimit.toNat ≤ s.baseB.stallWatch.toNat) → exec .stallEvent s = .next s)
    ∧ (s.watchRuns = true → s.baseB.stallLimit.toNat ≤ s.baseB.stallWatch.toNat → s.kept →
        let t : State :=
          { (s.mapWindows fun m w x =>
              if ∃ q ∈ s.claims, q.base = .b ∧ q.master = m ∧ q.window = w then
                { x with
                  state := .done, code := some .baseUnavailable, words := resultWords [], drainSet := 0, released := 0, drained := 0
                  completionPending := true }
              else x) with
            baseB := { s.baseB with state := .stalled, edgeCount := 0, stallWatch := 0 }
            deviceNotice := .baseBStalled
            expiryB := []
            leases := tabulate fun n => if n ∈ s.expiryB then (s.lease n).afterLapse .baseStalled else s.lease n
            channels := tabulate fun c =>
              if ∃ n ∈ s.expiryB, (s.channel c).governing = some n then (s.channel c).afterRelease else s.channel c
            lines := tabulate fun k =>
              if ∃ n ∈ s.expiryB, (s.line k).bound = some n then { s.line k with bound := none } else s.line k
            offers := tabulate fun m => (s.offerList m).filter fun n => decide (n ∉ s.expiryB)
            claims := s.claims.filter fun q => q.base != .b }
        exec .stallEvent s = .next
          (if (∃ c : Fin 16, (s.channel c).state ≠ .idle ∧ (t.channel c).state = .idle) ∨ (∃ q ∈ s.claims, q.base = .b) then t.scan
           else t))

/-- R57: the claims whose deadlines are reached leave the queue, their windows done TIMED_OUT with completion pending, and one scan follows;
with none reached, the row changes nothing, which is the model's choice (log 2). -/
def Obligations.ReachedDeadlinesTimeOut : Prop :=
  ∀ s : State, s.resetAsserted = false → s.aTickDue = false → s.bTickDue = false →
    let due (q : Claim) : Bool := match q.deadline with
      | none => false | some t => decide ((s.baseA.counter - t).toNat < 2147483648)
    ((∀ q ∈ s.claims, due q = false) → exec .waitDeadline s = .next s)
    ∧ ((∃ q ∈ s.claims, due q = true) → exec .waitDeadline s = .next
        (({ s with claims := s.claims.filter fun q => !due q }.mapWindows fun m w x =>
          if ∃ q ∈ s.claims, due q = true ∧ q.master = m ∧ q.window = w then
            { x with
              state := .done, code := some .timedOut, words := resultWords [], drainSet := 0, released := 0, drained := 0
              completionPending := true }
          else x).scan))

/-- R136 to R139: the comparator matches, the width edge and the boundary of one channel within an A-tick, each when its condition holds, and
nothing where it does not, which is the model's choice (log 2). -/
def Obligations.GeneratorsActAtATicks : Prop :=
  ∀ (c : Fin 16) (s : State), s.resetAsserted = false → s.aTickDue = false → s.bTickDue = false →
    let v := (s.channel c).wave
    let into (v' : Waveform) : State := s.setChannel c { s.channel c with wave := v' }
    let note (t : State) (n : Fin 64) (kind : KindSet) : State :=
      t.setLease n { s.lease n with notices := (s.lease n).notices ||| kind, noticeCount := (s.lease n).noticeCount + 1 }
    (let rise := ∃ t : Stamp, v.rise = some t ∧ (s.baseA.counter - t).toNat < 2147483648
     let fall := ∃ t : Stamp, v.fall = some t ∧ (s.baseA.counter - t).toNat < 2147483648
     ((v.mode ≠ .single ∨ (¬ rise ∧ ¬ fall)) → exec (.comparatorMatch c) s = .next s)
     ∧ (v.mode = .single → ∀ n : Fin 64, (s.channel c).governing = some n →
        (rise → fall → exec (.comparatorMatch c) s =
          .next (note (into { v with flipFlop := false, rise := none, fall := none }) n 0b001000))
        ∧ (rise → ¬ fall → exec (.comparatorMatch c) s =
          .next (if v.fall = none then note (into { v with flipFlop := true, rise := none }) n 0b001000
            else into { v with flipFlop := true, rise := none }))
        ∧ (¬ rise → fall → exec (.comparatorMatch c) s =
          .next (if v.rise = none then note (into { v with flipFlop := false, fall := none }) n 0b001000
            else into { v with flipFlop := false, fall := none }))))
    ∧ (v.mode = .periodic → v.position = v.width → v.width.toNat < v.period.toNat →
        exec (.widthEdge c) s = .next (into { v with flipFlop := false }))
    ∧ (¬ (v.mode = .periodic ∧ v.position = v.width ∧ v.width.toNat < v.period.toNat) → exec (.widthEdge c) s = .next s)
    ∧ (∀ n : Fin 64, (s.channel c).governing = some n → (s.channel c).state = .active ∨ (s.channel c).state = .parked →
        v.mode = .periodic → v.position = v.period → v.period ≠ 0 →
        let width := match v.staged with | none => v.width | some p => p.2
        let period := match v.staged with | none => v.period | some p => p.1
        let t := into { v with period := period, width := width, staged := none, position := 0, flipFlop := decide (width ≠ 0) }
        exec (.boundary c) s = .next (if (s.lease n).boundaryNotices then note t n 0b000100 else t))
    ∧ (¬ (((s.channel c).state = .active ∨ (s.channel c).state = .parked) ∧ v.mode = .periodic ∧ v.position = v.period ∧ v.period ≠ 0) →
        exec (.boundary c) s = .next s)

/-- R119, R120, R88: the boundary of a DRAINING channel takes it to IDLE with no notice; a window whose drain set loses its last channel
completes OK late with the words of its RELEASE, which the model's own fields keep (log 13), and one scan follows. That the row changes
nothing anywhere else is the model's choice (log 2). -/
def Obligations.DrainEndsAtTheBoundary : Prop :=
  ∀ (c : Fin 16) (s : State), s.resetAsserted = false → s.aTickDue = false → s.bTickDue = false →
    let due : Prop := (s.channel c).state = .draining ∧ (s.channel c).wave.mode = .periodic
      ∧ (s.channel c).wave.position = (s.channel c).wave.period ∧ (s.channel c).wave.period ≠ 0
    (¬ due → exec (.drainEnd c) s = .next s)
    ∧ (due → exec (.drainEnd c) s = .next
        (((s.setChannel c (s.channel c).idled).mapWindows fun _ _ x =>
          if x.drainSet.getLsbD c.val = false then x
          else if ∀ d : Fin 16, d ≠ c → x.drainSet.getLsbD d.val = false then
            { x with
              state := .done, code := some .ok, words := resultWords [x.released, x.drained], drainSet := 0, released := 0
              drained := 0, completionPending := true }
          else { x with drainSet := x.drainSet &&& ~~~(1#16 <<< c.val) }).scan))

/-- R25, R26, R36: a stamp set a number of ticks ahead of the present value, at most 16,777,215, is reached after exactly that many further
ticks, and stays reached for 2³¹ ticks. R38: an entry into a queue that stands in order leaves it in order, the newcomer after every entry at an equal or smaller distance. -/
def Obligations.StampsAreReachedAndQueuedInOrder : Prop :=
  (∀ (now : Stamp) (term : Ticks) (k : Nat), k < 2 ^ 31 + term.toNat →
    (reached (now + term.setWidth 32) (now + BitVec.ofNat 32 k) = true ↔ term.toNat ≤ k))
  ∧ ∀ (d : Fin 64 → Int) (n : Fin 64) (q : List (Fin 64)), q.Pairwise (fun x y => d x ≤ d y) →
    (insertByDistance d n q).Pairwise (fun x y => d x ≤ d y)
    ∧ ∃ before after : List (Fin 64), q = before ++ after ∧ insertByDistance d n q = before ++ n :: after
        ∧ (∀ x ∈ before, d x ≤ d n) ∧ ∀ x ∈ after, d n < d x

/-! ## What every step keeps -/

/-- The reset state keeps every condition. -/
def Obligations.ResetKeepsEveryCondition : Prop :=
  State.reset.kept ∧ State.reset.noneGrantable ∧ State.reset.queuesOrdered ∧ State.reset.stampsNear

/-- R158, R149, R160. -/
def Obligations.StepKeepsWindows : Prop :=
  ∀ s t : State, s.windowsKept → step s = .next t → t.windowsKept

/-- R168, R10: master 0 stays enabled, roles are fixed, quotas stay in range; and every divisor stays 1 or more (R28, R32). -/
def Obligations.StepKeepsMastersAndDivisors : Prop :=
  ∀ s t : State, s.mastersKept → s.divisorsKept → step s = .next t → t.mastersKept ∧ t.divisorsKept

/-- R47, R159. -/
def Obligations.StepKeepsWaits : Prop :=
  ∀ s t : State, s.windowsKept → s.waitsKept → step s = .next t → t.waitsKept

/-- R102. -/
def Obligations.StepKeepsOffers : Prop :=
  ∀ s t : State, s.offersKept → step s = .next t → t.offersKept

/-- R115, R119, R120, R2. -/
def Obligations.StepKeepsChannelGovernance : Prop :=
  ∀ s t : State, s.channelsKept → step s = .next t → t.channelsKept

/-- R129, R113, R121. -/
def Obligations.StepKeepsWaveforms : Prop :=
  ∀ s t : State, s.wavesKept → step s = .next t → t.wavesKept

/-- R38: what the queues hold, and their order by distance. R26 rests the order on every queued stamp lying within 2³¹ ticks of its base's
present value: the step's premise is that no queued stamp lies 2³¹ ticks behind, where its next tick would turn its distance positive.
The model can come there only by delaying an expiry event for that long (log 6). -/
def Obligations.StepKeepsExpiryQueues : Prop :=
  ∀ s t : State, s.expiryKept → step s = .next t →
    t.expiryKept ∧ (s.queuesOrdered → s.stampsNear → t.queuesOrdered)

/-- R82. -/
def Obligations.StepKeepsLineBindings : Prop :=
  ∀ s t : State, s.linesKept → step s = .next t → t.linesKept

/-- R9. -/
def Obligations.StepKeepsLeaseCounts : Prop :=
  ∀ s t : State, s.countsKept → step s = .next t → t.countsKept

/-- R34, closing paragraph. -/
def Obligations.StepKeepsBaseB : Prop :=
  ∀ s t : State, s.expiryKept → s.baseBKept → step s = .next t → t.baseBKept

/-- R2, R3, R5, R92. -/
def Obligations.StepKeepsLeaseRecords : Prop :=
  ∀ s t : State, s.channelsKept → s.expiryKept → s.recordsKept → step s = .next t → t.recordsKept

/-- R5: a record's generation changes only when it is granted, and then by the rule of R5; power-on reset alone returns it to 0. A record is
granted when it holds what R12 sets and nothing has happened to it since: HELD under a holder, with the stamps of a term that begins
at the base's present value, no renewal, no staged term, no offer, no notice. -/
def Obligations.GenerationChangesOnlyAtAGrant : Prop :=
  ∀ (i : Instr) (n : Fin 64) (s t : State), s.settled → i ≠ .resetN true → exec i s = .next t →
    (t.lease n).generation = (s.lease n).generation
    ∨ ((t.lease n).state = .held ∧ (t.lease n).holder ≠ none
        ∧ (t.lease n).stagedTerm = none ∧ (t.lease n).renewals = 0 ∧ (t.lease n).endReason = none
        ∧ (t.lease n).offerTarget = none ∧ (t.lease n).notices = 0 ∧ (t.lease n).noticeCount = 0
        ∧ (t.lease n).lastRenewal = t.now (t.lease n).base
        ∧ (t.lease n).expiry = t.now (t.lease n).base + (t.lease n).term.setWidth 32
        ∧ (t.lease n).generation = if (s.lease n).generation = 255 then 1 else (s.lease n).generation + 1)

/-- R10: no row takes a master's lease count up and leaves it above its quota. -/
def Obligations.CountNeverRisesAboveQuota : Prop :=
  ∀ (i : Instr) (m : Fin 8) (s t : State), s.settled → exec i s = .next t →
    (s.master m).count < (t.master m).count → (t.master m).count ≤ (t.master m).quota

/-- R7, R8, R111 and the opening of chapter 10: what a master other than 0 does reaches no lease that another master holds and has not offered
to it, no argument word, command field or flag of another master's window, and nothing at all of one whose claim does not wait. -/
def Obligations.UserMastersReachOnlyTheirOwn : Prop :=
  ∀ (i : Instr) (m : Fin 8) (s t : State), s.settled → s.channelsKept → issuer i = some m → m ≠ 0 → exec i s = .next t →
    (∀ (n : Fin 64) (k : Fin 8), (s.lease n).state ≠ .free → (s.lease n).holder = some k → k ≠ m →
      (s.lease n).offerTarget ≠ some m → t.lease n = s.lease n)
    ∧ ∀ (k : Fin 8) (v : Fin 2), k ≠ m →
        (t.window k v).args = (s.window k v).args ∧ (t.window k v).command = (s.window k v).command
        ∧ (t.window k v).collision = (s.window k v).collision ∧ (t.window k v).abortNotTaken = (s.window k v).abortNotTaken
        ∧ ((∀ q ∈ s.claims, ¬ (q.master = k ∧ q.window = v)) → t.window k v = s.window k v)
end

