-- ==== Sys2Proof/Laws/State.lean ====
section
/-! SUPPORT. One lemma per field per update of the state record, and what each record reads as after each update. -/

namespace Sys2Proof.Machine

variable (s : State)

/-! ### `setWindow` -/

@[simp] theorem setWindow_masters (m : Fin 8) (w : Fin 2) (x : Window) : (s.setWindow m w x).masters = s.masters := rfl
@[simp] theorem setWindow_leases (m : Fin 8) (w : Fin 2) (x : Window) : (s.setWindow m w x).leases = s.leases := rfl
@[simp] theorem setWindow_offers (m : Fin 8) (w : Fin 2) (x : Window) : (s.setWindow m w x).offers = s.offers := rfl
@[simp] theorem setWindow_claims (m : Fin 8) (w : Fin 2) (x : Window) : (s.setWindow m w x).claims = s.claims := rfl
@[simp] theorem setWindow_arrivals (m : Fin 8) (w : Fin 2) (x : Window) : (s.setWindow m w x).arrivals = s.arrivals := rfl
@[simp] theorem setWindow_baseA (m : Fin 8) (w : Fin 2) (x : Window) : (s.setWindow m w x).baseA = s.baseA := rfl
@[simp] theorem setWindow_baseB (m : Fin 8) (w : Fin 2) (x : Window) : (s.setWindow m w x).baseB = s.baseB := rfl
@[simp] theorem setWindow_expiryA (m : Fin 8) (w : Fin 2) (x : Window) : (s.setWindow m w x).expiryA = s.expiryA := rfl
@[simp] theorem setWindow_expiryB (m : Fin 8) (w : Fin 2) (x : Window) : (s.setWindow m w x).expiryB = s.expiryB := rfl
@[simp] theorem setWindow_channels (m : Fin 8) (w : Fin 2) (x : Window) : (s.setWindow m w x).channels = s.channels := rfl
@[simp] theorem setWindow_lines (m : Fin 8) (w : Fin 2) (x : Window) : (s.setWindow m w x).lines = s.lines := rfl
@[simp] theorem setWindow_deviceNotice (m : Fin 8) (w : Fin 2) (x : Window) : (s.setWindow m w x).deviceNotice = s.deviceNotice := rfl
@[simp] theorem setWindow_freeze (m : Fin 8) (w : Fin 2) (x : Window) : (s.setWindow m w x).freeze = s.freeze := rfl
@[simp] theorem setWindow_resetAsserted (m : Fin 8) (w : Fin 2) (x : Window) : (s.setWindow m w x).resetAsserted = s.resetAsserted := rfl
@[simp] theorem setWindow_freeCount (m : Fin 8) (w : Fin 2) (x : Window) : (s.setWindow m w x).freeCount = s.freeCount := rfl
@[simp] theorem setWindow_pending (m : Fin 8) (w : Fin 2) (x : Window) : (s.setWindow m w x).pending = s.pending := rfl
@[simp] theorem setWindow_master (m : Fin 8) (w : Fin 2) (x : Window) (k : Fin 8) : (s.setWindow m w x).master k = s.master k := rfl
@[simp] theorem setWindow_lease (m : Fin 8) (w : Fin 2) (x : Window) (k : Fin 64) : (s.setWindow m w x).lease k = s.lease k := rfl
@[simp] theorem setWindow_offerList (m : Fin 8) (w : Fin 2) (x : Window) (k : Fin 8) : (s.setWindow m w x).offerList k = s.offerList k := rfl
@[simp] theorem setWindow_channel (m : Fin 8) (w : Fin 2) (x : Window) (k : Fin 16) : (s.setWindow m w x).channel k = s.channel k := rfl
@[simp] theorem setWindow_line (m : Fin 8) (w : Fin 2) (x : Window) (k : Fin 8) : (s.setWindow m w x).line k = s.line k := rfl
@[simp] theorem setWindow_expiryQueue (m : Fin 8) (w : Fin 2) (x : Window) (base : Base) : (s.setWindow m w x).expiryQueue base = s.expiryQueue base := by cases base <;> rfl

/-! ### `setMaster` -/

@[simp] theorem setMaster_windows (m : Fin 8) (x : Master) : (s.setMaster m x).windows = s.windows := rfl
@[simp] theorem setMaster_leases (m : Fin 8) (x : Master) : (s.setMaster m x).leases = s.leases := rfl
@[simp] theorem setMaster_offers (m : Fin 8) (x : Master) : (s.setMaster m x).offers = s.offers := rfl
@[simp] theorem setMaster_claims (m : Fin 8) (x : Master) : (s.setMaster m x).claims = s.claims := rfl
@[simp] theorem setMaster_arrivals (m : Fin 8) (x : Master) : (s.setMaster m x).arrivals = s.arrivals := rfl
@[simp] theorem setMaster_baseA (m : Fin 8) (x : Master) : (s.setMaster m x).baseA = s.baseA := rfl
@[simp] theorem setMaster_baseB (m : Fin 8) (x : Master) : (s.setMaster m x).baseB = s.baseB := rfl
@[simp] theorem setMaster_expiryA (m : Fin 8) (x : Master) : (s.setMaster m x).expiryA = s.expiryA := rfl
@[simp] theorem setMaster_expiryB (m : Fin 8) (x : Master) : (s.setMaster m x).expiryB = s.expiryB := rfl
@[simp] theorem setMaster_channels (m : Fin 8) (x : Master) : (s.setMaster m x).channels = s.channels := rfl
@[simp] theorem setMaster_lines (m : Fin 8) (x : Master) : (s.setMaster m x).lines = s.lines := rfl
@[simp] theorem setMaster_deviceNotice (m : Fin 8) (x : Master) : (s.setMaster m x).deviceNotice = s.deviceNotice := rfl
@[simp] theorem setMaster_freeze (m : Fin 8) (x : Master) : (s.setMaster m x).freeze = s.freeze := rfl
@[simp] theorem setMaster_resetAsserted (m : Fin 8) (x : Master) : (s.setMaster m x).resetAsserted = s.resetAsserted := rfl
@[simp] theorem setMaster_freeCount (m : Fin 8) (x : Master) : (s.setMaster m x).freeCount = s.freeCount := rfl
@[simp] theorem setMaster_pending (m : Fin 8) (x : Master) : (s.setMaster m x).pending = s.pending := rfl
@[simp] theorem setMaster_window (m : Fin 8) (x : Master) (k : Fin 8) (v : Fin 2) : (s.setMaster m x).window k v = s.window k v := rfl
@[simp] theorem setMaster_lease (m : Fin 8) (x : Master) (k : Fin 64) : (s.setMaster m x).lease k = s.lease k := rfl
@[simp] theorem setMaster_offerList (m : Fin 8) (x : Master) (k : Fin 8) : (s.setMaster m x).offerList k = s.offerList k := rfl
@[simp] theorem setMaster_channel (m : Fin 8) (x : Master) (k : Fin 16) : (s.setMaster m x).channel k = s.channel k := rfl
@[simp] theorem setMaster_line (m : Fin 8) (x : Master) (k : Fin 8) : (s.setMaster m x).line k = s.line k := rfl
@[simp] theorem setMaster_expiryQueue (m : Fin 8) (x : Master) (base : Base) : (s.setMaster m x).expiryQueue base = s.expiryQueue base := by cases base <;> rfl

/-! ### `setLease` -/

@[simp] theorem setLease_windows (n : Fin 64) (x : Lease) : (s.setLease n x).windows = s.windows := rfl
@[simp] theorem setLease_masters (n : Fin 64) (x : Lease) : (s.setLease n x).masters = s.masters := rfl
@[simp] theorem setLease_offers (n : Fin 64) (x : Lease) : (s.setLease n x).offers = s.offers := rfl
@[simp] theorem setLease_claims (n : Fin 64) (x : Lease) : (s.setLease n x).claims = s.claims := rfl
@[simp] theorem setLease_arrivals (n : Fin 64) (x : Lease) : (s.setLease n x).arrivals = s.arrivals := rfl
@[simp] theorem setLease_baseA (n : Fin 64) (x : Lease) : (s.setLease n x).baseA = s.baseA := rfl
@[simp] theorem setLease_baseB (n : Fin 64) (x : Lease) : (s.setLease n x).baseB = s.baseB := rfl
@[simp] theorem setLease_expiryA (n : Fin 64) (x : Lease) : (s.setLease n x).expiryA = s.expiryA := rfl
@[simp] theorem setLease_expiryB (n : Fin 64) (x : Lease) : (s.setLease n x).expiryB = s.expiryB := rfl
@[simp] theorem setLease_channels (n : Fin 64) (x : Lease) : (s.setLease n x).channels = s.channels := rfl
@[simp] theorem setLease_lines (n : Fin 64) (x : Lease) : (s.setLease n x).lines = s.lines := rfl
@[simp] theorem setLease_deviceNotice (n : Fin 64) (x : Lease) : (s.setLease n x).deviceNotice = s.deviceNotice := rfl
@[simp] theorem setLease_freeze (n : Fin 64) (x : Lease) : (s.setLease n x).freeze = s.freeze := rfl
@[simp] theorem setLease_resetAsserted (n : Fin 64) (x : Lease) : (s.setLease n x).resetAsserted = s.resetAsserted := rfl
@[simp] theorem setLease_freeCount (n : Fin 64) (x : Lease) : (s.setLease n x).freeCount = s.freeCount := rfl
@[simp] theorem setLease_pending (n : Fin 64) (x : Lease) : (s.setLease n x).pending = s.pending := rfl
@[simp] theorem setLease_window (n : Fin 64) (x : Lease) (k : Fin 8) (v : Fin 2) : (s.setLease n x).window k v = s.window k v := rfl
@[simp] theorem setLease_master (n : Fin 64) (x : Lease) (k : Fin 8) : (s.setLease n x).master k = s.master k := rfl
@[simp] theorem setLease_offerList (n : Fin 64) (x : Lease) (k : Fin 8) : (s.setLease n x).offerList k = s.offerList k := rfl
@[simp] theorem setLease_channel (n : Fin 64) (x : Lease) (k : Fin 16) : (s.setLease n x).channel k = s.channel k := rfl
@[simp] theorem setLease_line (n : Fin 64) (x : Lease) (k : Fin 8) : (s.setLease n x).line k = s.line k := rfl
@[simp] theorem setLease_expiryQueue (n : Fin 64) (x : Lease) (base : Base) : (s.setLease n x).expiryQueue base = s.expiryQueue base := by cases base <;> rfl

/-! ### `setOfferList` -/

@[simp] theorem setOfferList_windows (m : Fin 8) (x : List (Fin 64)) : (s.setOfferList m x).windows = s.windows := rfl
@[simp] theorem setOfferList_masters (m : Fin 8) (x : List (Fin 64)) : (s.setOfferList m x).masters = s.masters := rfl
@[simp] theorem setOfferList_leases (m : Fin 8) (x : List (Fin 64)) : (s.setOfferList m x).leases = s.leases := rfl
@[simp] theorem setOfferList_claims (m : Fin 8) (x : List (Fin 64)) : (s.setOfferList m x).claims = s.claims := rfl
@[simp] theorem setOfferList_arrivals (m : Fin 8) (x : List (Fin 64)) : (s.setOfferList m x).arrivals = s.arrivals := rfl
@[simp] theorem setOfferList_baseA (m : Fin 8) (x : List (Fin 64)) : (s.setOfferList m x).baseA = s.baseA := rfl
@[simp] theorem setOfferList_baseB (m : Fin 8) (x : List (Fin 64)) : (s.setOfferList m x).baseB = s.baseB := rfl
@[simp] theorem setOfferList_expiryA (m : Fin 8) (x : List (Fin 64)) : (s.setOfferList m x).expiryA = s.expiryA := rfl
@[simp] theorem setOfferList_expiryB (m : Fin 8) (x : List (Fin 64)) : (s.setOfferList m x).expiryB = s.expiryB := rfl
@[simp] theorem setOfferList_channels (m : Fin 8) (x : List (Fin 64)) : (s.setOfferList m x).channels = s.channels := rfl
@[simp] theorem setOfferList_lines (m : Fin 8) (x : List (Fin 64)) : (s.setOfferList m x).lines = s.lines := rfl
@[simp] theorem setOfferList_deviceNotice (m : Fin 8) (x : List (Fin 64)) : (s.setOfferList m x).deviceNotice = s.deviceNotice := rfl
@[simp] theorem setOfferList_freeze (m : Fin 8) (x : List (Fin 64)) : (s.setOfferList m x).freeze = s.freeze := rfl
@[simp] theorem setOfferList_resetAsserted (m : Fin 8) (x : List (Fin 64)) : (s.setOfferList m x).resetAsserted = s.resetAsserted := rfl
@[simp] theorem setOfferList_freeCount (m : Fin 8) (x : List (Fin 64)) : (s.setOfferList m x).freeCount = s.freeCount := rfl
@[simp] theorem setOfferList_pending (m : Fin 8) (x : List (Fin 64)) : (s.setOfferList m x).pending = s.pending := rfl
@[simp] theorem setOfferList_window (m : Fin 8) (x : List (Fin 64)) (k : Fin 8) (v : Fin 2) : (s.setOfferList m x).window k v = s.window k v := rfl
@[simp] theorem setOfferList_master (m : Fin 8) (x : List (Fin 64)) (k : Fin 8) : (s.setOfferList m x).master k = s.master k := rfl
@[simp] theorem setOfferList_lease (m : Fin 8) (x : List (Fin 64)) (k : Fin 64) : (s.setOfferList m x).lease k = s.lease k := rfl
@[simp] theorem setOfferList_channel (m : Fin 8) (x : List (Fin 64)) (k : Fin 16) : (s.setOfferList m x).channel k = s.channel k := rfl
@[simp] theorem setOfferList_line (m : Fin 8) (x : List (Fin 64)) (k : Fin 8) : (s.setOfferList m x).line k = s.line k := rfl
@[simp] theorem setOfferList_expiryQueue (m : Fin 8) (x : List (Fin 64)) (base : Base) : (s.setOfferList m x).expiryQueue base = s.expiryQueue base := by cases base <;> rfl

/-! ### `setChannel` -/

@[simp] theorem setChannel_windows (c : Fin 16) (x : Channel) : (s.setChannel c x).windows = s.windows := rfl
@[simp] theorem setChannel_masters (c : Fin 16) (x : Channel) : (s.setChannel c x).masters = s.masters := rfl
@[simp] theorem setChannel_leases (c : Fin 16) (x : Channel) : (s.setChannel c x).leases = s.leases := rfl
@[simp] theorem setChannel_offers (c : Fin 16) (x : Channel) : (s.setChannel c x).offers = s.offers := rfl
@[simp] theorem setChannel_claims (c : Fin 16) (x : Channel) : (s.setChannel c x).claims = s.claims := rfl
@[simp] theorem setChannel_arrivals (c : Fin 16) (x : Channel) : (s.setChannel c x).arrivals = s.arrivals := rfl
@[simp] theorem setChannel_baseA (c : Fin 16) (x : Channel) : (s.setChannel c x).baseA = s.baseA := rfl
@[simp] theorem setChannel_baseB (c : Fin 16) (x : Channel) : (s.setChannel c x).baseB = s.baseB := rfl
@[simp] theorem setChannel_expiryA (c : Fin 16) (x : Channel) : (s.setChannel c x).expiryA = s.expiryA := rfl
@[simp] theorem setChannel_expiryB (c : Fin 16) (x : Channel) : (s.setChannel c x).expiryB = s.expiryB := rfl
@[simp] theorem setChannel_lines (c : Fin 16) (x : Channel) : (s.setChannel c x).lines = s.lines := rfl
@[simp] theorem setChannel_deviceNotice (c : Fin 16) (x : Channel) : (s.setChannel c x).deviceNotice = s.deviceNotice := rfl
@[simp] theorem setChannel_freeze (c : Fin 16) (x : Channel) : (s.setChannel c x).freeze = s.freeze := rfl
@[simp] theorem setChannel_resetAsserted (c : Fin 16) (x : Channel) : (s.setChannel c x).resetAsserted = s.resetAsserted := rfl
@[simp] theorem setChannel_freeCount (c : Fin 16) (x : Channel) : (s.setChannel c x).freeCount = s.freeCount := rfl
@[simp] theorem setChannel_pending (c : Fin 16) (x : Channel) : (s.setChannel c x).pending = s.pending := rfl
@[simp] theorem setChannel_window (c : Fin 16) (x : Channel) (k : Fin 8) (v : Fin 2) : (s.setChannel c x).window k v = s.window k v := rfl
@[simp] theorem setChannel_master (c : Fin 16) (x : Channel) (k : Fin 8) : (s.setChannel c x).master k = s.master k := rfl
@[simp] theorem setChannel_lease (c : Fin 16) (x : Channel) (k : Fin 64) : (s.setChannel c x).lease k = s.lease k := rfl
@[simp] theorem setChannel_offerList (c : Fin 16) (x : Channel) (k : Fin 8) : (s.setChannel c x).offerList k = s.offerList k := rfl
@[simp] theorem setChannel_line (c : Fin 16) (x : Channel) (k : Fin 8) : (s.setChannel c x).line k = s.line k := rfl
@[simp] theorem setChannel_expiryQueue (c : Fin 16) (x : Channel) (base : Base) : (s.setChannel c x).expiryQueue base = s.expiryQueue base := by cases base <;> rfl

/-! ### `setLine` -/

@[simp] theorem setLine_windows (j : Fin 8) (x : Line) : (s.setLine j x).windows = s.windows := rfl
@[simp] theorem setLine_masters (j : Fin 8) (x : Line) : (s.setLine j x).masters = s.masters := rfl
@[simp] theorem setLine_leases (j : Fin 8) (x : Line) : (s.setLine j x).leases = s.leases := rfl
@[simp] theorem setLine_offers (j : Fin 8) (x : Line) : (s.setLine j x).offers = s.offers := rfl
@[simp] theorem setLine_claims (j : Fin 8) (x : Line) : (s.setLine j x).claims = s.claims := rfl
@[simp] theorem setLine_arrivals (j : Fin 8) (x : Line) : (s.setLine j x).arrivals = s.arrivals := rfl
@[simp] theorem setLine_baseA (j : Fin 8) (x : Line) : (s.setLine j x).baseA = s.baseA := rfl
@[simp] theorem setLine_baseB (j : Fin 8) (x : Line) : (s.setLine j x).baseB = s.baseB := rfl
@[simp] theorem setLine_expiryA (j : Fin 8) (x : Line) : (s.setLine j x).expiryA = s.expiryA := rfl
@[simp] theorem setLine_expiryB (j : Fin 8) (x : Line) : (s.setLine j x).expiryB = s.expiryB := rfl
@[simp] theorem setLine_channels (j : Fin 8) (x : Line) : (s.setLine j x).channels = s.channels := rfl
@[simp] theorem setLine_deviceNotice (j : Fin 8) (x : Line) : (s.setLine j x).deviceNotice = s.deviceNotice := rfl
@[simp] theorem setLine_freeze (j : Fin 8) (x : Line) : (s.setLine j x).freeze = s.freeze := rfl
@[simp] theorem setLine_resetAsserted (j : Fin 8) (x : Line) : (s.setLine j x).resetAsserted = s.resetAsserted := rfl
@[simp] theorem setLine_freeCount (j : Fin 8) (x : Line) : (s.setLine j x).freeCount = s.freeCount := rfl
@[simp] theorem setLine_pending (j : Fin 8) (x : Line) : (s.setLine j x).pending = s.pending := rfl
@[simp] theorem setLine_window (j : Fin 8) (x : Line) (k : Fin 8) (v : Fin 2) : (s.setLine j x).window k v = s.window k v := rfl
@[simp] theorem setLine_master (j : Fin 8) (x : Line) (k : Fin 8) : (s.setLine j x).master k = s.master k := rfl
@[simp] theorem setLine_lease (j : Fin 8) (x : Line) (k : Fin 64) : (s.setLine j x).lease k = s.lease k := rfl
@[simp] theorem setLine_offerList (j : Fin 8) (x : Line) (k : Fin 8) : (s.setLine j x).offerList k = s.offerList k := rfl
@[simp] theorem setLine_channel (j : Fin 8) (x : Line) (k : Fin 16) : (s.setLine j x).channel k = s.channel k := rfl
@[simp] theorem setLine_expiryQueue (j : Fin 8) (x : Line) (base : Base) : (s.setLine j x).expiryQueue base = s.expiryQueue base := by cases base <;> rfl

/-! ### `mapWindows` -/

@[simp] theorem mapWindows_masters (f : Fin 8 → Fin 2 → Window → Window) : (s.mapWindows f).masters = s.masters := rfl
@[simp] theorem mapWindows_leases (f : Fin 8 → Fin 2 → Window → Window) : (s.mapWindows f).leases = s.leases := rfl
@[simp] theorem mapWindows_offers (f : Fin 8 → Fin 2 → Window → Window) : (s.mapWindows f).offers = s.offers := rfl
@[simp] theorem mapWindows_claims (f : Fin 8 → Fin 2 → Window → Window) : (s.mapWindows f).claims = s.claims := rfl
@[simp] theorem mapWindows_arrivals (f : Fin 8 → Fin 2 → Window → Window) : (s.mapWindows f).arrivals = s.arrivals := rfl
@[simp] theorem mapWindows_baseA (f : Fin 8 → Fin 2 → Window → Window) : (s.mapWindows f).baseA = s.baseA := rfl
@[simp] theorem mapWindows_baseB (f : Fin 8 → Fin 2 → Window → Window) : (s.mapWindows f).baseB = s.baseB := rfl
@[simp] theorem mapWindows_expiryA (f : Fin 8 → Fin 2 → Window → Window) : (s.mapWindows f).expiryA = s.expiryA := rfl
@[simp] theorem mapWindows_expiryB (f : Fin 8 → Fin 2 → Window → Window) : (s.mapWindows f).expiryB = s.expiryB := rfl
@[simp] theorem mapWindows_channels (f : Fin 8 → Fin 2 → Window → Window) : (s.mapWindows f).channels = s.channels := rfl
@[simp] theorem mapWindows_lines (f : Fin 8 → Fin 2 → Window → Window) : (s.mapWindows f).lines = s.lines := rfl
@[simp] theorem mapWindows_deviceNotice (f : Fin 8 → Fin 2 → Window → Window) : (s.mapWindows f).deviceNotice = s.deviceNotice := rfl
@[simp] theorem mapWindows_freeze (f : Fin 8 → Fin 2 → Window → Window) : (s.mapWindows f).freeze = s.freeze := rfl
@[simp] theorem mapWindows_resetAsserted (f : Fin 8 → Fin 2 → Window → Window) : (s.mapWindows f).resetAsserted = s.resetAsserted := rfl
@[simp] theorem mapWindows_freeCount (f : Fin 8 → Fin 2 → Window → Window) : (s.mapWindows f).freeCount = s.freeCount := rfl
@[simp] theorem mapWindows_pending (f : Fin 8 → Fin 2 → Window → Window) : (s.mapWindows f).pending = s.pending := rfl
@[simp] theorem mapWindows_master (f : Fin 8 → Fin 2 → Window → Window) (k : Fin 8) : (s.mapWindows f).master k = s.master k := rfl
@[simp] theorem mapWindows_lease (f : Fin 8 → Fin 2 → Window → Window) (k : Fin 64) : (s.mapWindows f).lease k = s.lease k := rfl
@[simp] theorem mapWindows_offerList (f : Fin 8 → Fin 2 → Window → Window) (k : Fin 8) : (s.mapWindows f).offerList k = s.offerList k := rfl
@[simp] theorem mapWindows_channel (f : Fin 8 → Fin 2 → Window → Window) (k : Fin 16) : (s.mapWindows f).channel k = s.channel k := rfl
@[simp] theorem mapWindows_line (f : Fin 8 → Fin 2 → Window → Window) (k : Fin 8) : (s.mapWindows f).line k = s.line k := rfl
@[simp] theorem mapWindows_expiryQueue (f : Fin 8 → Fin 2 → Window → Window) (base : Base) : (s.mapWindows f).expiryQueue base = s.expiryQueue base := by cases base <;> rfl

/-! ### `mapChannels` -/

@[simp] theorem mapChannels_windows (f : Fin 16 → Channel → Channel) : (s.mapChannels f).windows = s.windows := rfl
@[simp] theorem mapChannels_masters (f : Fin 16 → Channel → Channel) : (s.mapChannels f).masters = s.masters := rfl
@[simp] theorem mapChannels_leases (f : Fin 16 → Channel → Channel) : (s.mapChannels f).leases = s.leases := rfl
@[simp] theorem mapChannels_offers (f : Fin 16 → Channel → Channel) : (s.mapChannels f).offers = s.offers := rfl
@[simp] theorem mapChannels_claims (f : Fin 16 → Channel → Channel) : (s.mapChannels f).claims = s.claims := rfl
@[simp] theorem mapChannels_arrivals (f : Fin 16 → Channel → Channel) : (s.mapChannels f).arrivals = s.arrivals := rfl
@[simp] theorem mapChannels_baseA (f : Fin 16 → Channel → Channel) : (s.mapChannels f).baseA = s.baseA := rfl
@[simp] theorem mapChannels_baseB (f : Fin 16 → Channel → Channel) : (s.mapChannels f).baseB = s.baseB := rfl
@[simp] theorem mapChannels_expiryA (f : Fin 16 → Channel → Channel) : (s.mapChannels f).expiryA = s.expiryA := rfl
@[simp] theorem mapChannels_expiryB (f : Fin 16 → Channel → Channel) : (s.mapChannels f).expiryB = s.expiryB := rfl
@[simp] theorem mapChannels_lines (f : Fin 16 → Channel → Channel) : (s.mapChannels f).lines = s.lines := rfl
@[simp] theorem mapChannels_deviceNotice (f : Fin 16 → Channel → Channel) : (s.mapChannels f).deviceNotice = s.deviceNotice := rfl
@[simp] theorem mapChannels_freeze (f : Fin 16 → Channel → Channel) : (s.mapChannels f).freeze = s.freeze := rfl
@[simp] theorem mapChannels_resetAsserted (f : Fin 16 → Channel → Channel) : (s.mapChannels f).resetAsserted = s.resetAsserted := rfl
@[simp] theorem mapChannels_freeCount (f : Fin 16 → Channel → Channel) : (s.mapChannels f).freeCount = s.freeCount := rfl
@[simp] theorem mapChannels_pending (f : Fin 16 → Channel → Channel) : (s.mapChannels f).pending = s.pending := rfl
@[simp] theorem mapChannels_window (f : Fin 16 → Channel → Channel) (k : Fin 8) (v : Fin 2) : (s.mapChannels f).window k v = s.window k v := rfl
@[simp] theorem mapChannels_master (f : Fin 16 → Channel → Channel) (k : Fin 8) : (s.mapChannels f).master k = s.master k := rfl
@[simp] theorem mapChannels_lease (f : Fin 16 → Channel → Channel) (k : Fin 64) : (s.mapChannels f).lease k = s.lease k := rfl
@[simp] theorem mapChannels_offerList (f : Fin 16 → Channel → Channel) (k : Fin 8) : (s.mapChannels f).offerList k = s.offerList k := rfl
@[simp] theorem mapChannels_line (f : Fin 16 → Channel → Channel) (k : Fin 8) : (s.mapChannels f).line k = s.line k := rfl
@[simp] theorem mapChannels_expiryQueue (f : Fin 16 → Channel → Channel) (base : Base) : (s.mapChannels f).expiryQueue base = s.expiryQueue base := by cases base <;> rfl

/-! ### `setExpiryQueue` -/

@[simp] theorem setExpiryQueue_windows (base : Base) (q : List (Fin 64)) : (s.setExpiryQueue base q).windows = s.windows := by cases base <;> rfl
@[simp] theorem setExpiryQueue_masters (base : Base) (q : List (Fin 64)) : (s.setExpiryQueue base q).masters = s.masters := by cases base <;> rfl
@[simp] theorem setExpiryQueue_leases (base : Base) (q : List (Fin 64)) : (s.setExpiryQueue base q).leases = s.leases := by cases base <;> rfl
@[simp] theorem setExpiryQueue_offers (base : Base) (q : List (Fin 64)) : (s.setExpiryQueue base q).offers = s.offers := by cases base <;> rfl
@[simp] theorem setExpiryQueue_claims (base : Base) (q : List (Fin 64)) : (s.setExpiryQueue base q).claims = s.claims := by cases base <;> rfl
@[simp] theorem setExpiryQueue_arrivals (base : Base) (q : List (Fin 64)) : (s.setExpiryQueue base q).arrivals = s.arrivals := by cases base <;> rfl
@[simp] theorem setExpiryQueue_baseA (base : Base) (q : List (Fin 64)) : (s.setExpiryQueue base q).baseA = s.baseA := by cases base <;> rfl
@[simp] theorem setExpiryQueue_baseB (base : Base) (q : List (Fin 64)) : (s.setExpiryQueue base q).baseB = s.baseB := by cases base <;> rfl
@[simp] theorem setExpiryQueue_channels (base : Base) (q : List (Fin 64)) : (s.setExpiryQueue base q).channels = s.channels := by cases base <;> rfl
@[simp] theorem setExpiryQueue_lines (base : Base) (q : List (Fin 64)) : (s.setExpiryQueue base q).lines = s.lines := by cases base <;> rfl
@[simp] theorem setExpiryQueue_deviceNotice (base : Base) (q : List (Fin 64)) : (s.setExpiryQueue base q).deviceNotice = s.deviceNotice := by cases base <;> rfl
@[simp] theorem setExpiryQueue_freeze (base : Base) (q : List (Fin 64)) : (s.setExpiryQueue base q).freeze = s.freeze := by cases base <;> rfl
@[simp] theorem setExpiryQueue_resetAsserted (base : Base) (q : List (Fin 64)) : (s.setExpiryQueue base q).resetAsserted = s.resetAsserted := by cases base <;> rfl
@[simp] theorem setExpiryQueue_freeCount (base : Base) (q : List (Fin 64)) : (s.setExpiryQueue base q).freeCount = s.freeCount := by cases base <;> rfl
@[simp] theorem setExpiryQueue_pending (base : Base) (q : List (Fin 64)) : (s.setExpiryQueue base q).pending = s.pending := by cases base <;> rfl
@[simp] theorem setExpiryQueue_window (base : Base) (q : List (Fin 64)) (k : Fin 8) (v : Fin 2) : (s.setExpiryQueue base q).window k v = s.window k v := by cases base <;> rfl
@[simp] theorem setExpiryQueue_master (base : Base) (q : List (Fin 64)) (k : Fin 8) : (s.setExpiryQueue base q).master k = s.master k := by cases base <;> rfl
@[simp] theorem setExpiryQueue_lease (base : Base) (q : List (Fin 64)) (k : Fin 64) : (s.setExpiryQueue base q).lease k = s.lease k := by cases base <;> rfl
@[simp] theorem setExpiryQueue_offerList (base : Base) (q : List (Fin 64)) (k : Fin 8) : (s.setExpiryQueue base q).offerList k = s.offerList k := by cases base <;> rfl
@[simp] theorem setExpiryQueue_channel (base : Base) (q : List (Fin 64)) (k : Fin 16) : (s.setExpiryQueue base q).channel k = s.channel k := by cases base <;> rfl
@[simp] theorem setExpiryQueue_line (base : Base) (q : List (Fin 64)) (k : Fin 8) : (s.setExpiryQueue base q).line k = s.line k := by cases base <;> rfl

theorem setExpiryQueue_expiryQueue (base base' : Base) (q : List (Fin 64)) :
    (s.setExpiryQueue base q).expiryQueue base' = if base' = base then q else s.expiryQueue base' := by
  cases base <;> cases base' <;> rfl

/-! ### What a record reads as after an update of its table -/

theorem windowIndex_inj {m k : Fin 8} {w v : Fin 2} : windowIndex m w = windowIndex k v ↔ m = k ∧ w = v := by
  simp only [windowIndex, Fin.ext_iff]; omega

theorem setWindow_window (m k : Fin 8) (w v : Fin 2) (x : Window) :
    (s.setWindow m w x).window k v = if k = m ∧ v = w then x else s.window k v := by
  have h := @windowIndex_inj m k w v
  simp only [State.window, State.setWindow, Fin.getElem_fin, Vector.getElem_set]
  simp only [Fin.val_inj, h, eq_comm]

theorem setMaster_master (i k : Fin 8) (x : Master) : (s.setMaster i x).master k = if k = i then x else s.master k := by
  simp only [State.master, State.setMaster, Fin.getElem_fin, Vector.getElem_set, Fin.val_inj, eq_comm]

@[simp] theorem setMaster_master_same (i : Fin 8) (x : Master) : (s.setMaster i x).master i = x := by simp [setMaster_master]

theorem setMaster_master_other {i k : Fin 8} (h : k ≠ i) (x : Master) : (s.setMaster i x).master k = s.master k := by simp [setMaster_master, h]

@[simp] theorem setMaster_setMaster (i : Fin 8) (x y : Master) : (s.setMaster i x).setMaster i y = s.setMaster i y := by
  simp [State.setMaster]

theorem setLease_lease (i k : Fin 64) (x : Lease) : (s.setLease i x).lease k = if k = i then x else s.lease k := by
  simp only [State.lease, State.setLease, Fin.getElem_fin, Vector.getElem_set, Fin.val_inj, eq_comm]

@[simp] theorem setLease_lease_same (i : Fin 64) (x : Lease) : (s.setLease i x).lease i = x := by simp [setLease_lease]

theorem setLease_lease_other {i k : Fin 64} (h : k ≠ i) (x : Lease) : (s.setLease i x).lease k = s.lease k := by simp [setLease_lease, h]

@[simp] theorem setLease_setLease (i : Fin 64) (x y : Lease) : (s.setLease i x).setLease i y = s.setLease i y := by
  simp [State.setLease]

theorem setOfferList_offerList (i k : Fin 8) (x : List (Fin 64)) : (s.setOfferList i x).offerList k = if k = i then x else s.offerList k := by
  simp only [State.offerList, State.setOfferList, Fin.getElem_fin, Vector.getElem_set, Fin.val_inj, eq_comm]

@[simp] theorem setOfferList_offerList_same (i : Fin 8) (x : List (Fin 64)) : (s.setOfferList i x).offerList i = x := by simp [setOfferList_offerList]

theorem setOfferList_offerList_other {i k : Fin 8} (h : k ≠ i) (x : List (Fin 64)) : (s.setOfferList i x).offerList k = s.offerList k := by simp [setOfferList_offerList, h]

@[simp] theorem setOfferList_setOfferList (i : Fin 8) (x y : List (Fin 64)) : (s.setOfferList i x).setOfferList i y = s.setOfferList i y := by
  simp [State.setOfferList]

theorem setChannel_channel (i k : Fin 16) (x : Channel) : (s.setChannel i x).channel k = if k = i then x else s.channel k := by
  simp only [State.channel, State.setChannel, Fin.getElem_fin, Vector.getElem_set, Fin.val_inj, eq_comm]

@[simp] theorem setChannel_channel_same (i : Fin 16) (x : Channel) : (s.setChannel i x).channel i = x := by simp [setChannel_channel]

theorem setChannel_channel_other {i k : Fin 16} (h : k ≠ i) (x : Channel) : (s.setChannel i x).channel k = s.channel k := by simp [setChannel_channel, h]

@[simp] theorem setChannel_setChannel (i : Fin 16) (x y : Channel) : (s.setChannel i x).setChannel i y = s.setChannel i y := by
  simp [State.setChannel]

theorem setLine_line (i k : Fin 8) (x : Line) : (s.setLine i x).line k = if k = i then x else s.line k := by
  simp only [State.line, State.setLine, Fin.getElem_fin, Vector.getElem_set, Fin.val_inj, eq_comm]

@[simp] theorem setLine_line_same (i : Fin 8) (x : Line) : (s.setLine i x).line i = x := by simp [setLine_line]

theorem setLine_line_other {i k : Fin 8} (h : k ≠ i) (x : Line) : (s.setLine i x).line k = s.line k := by simp [setLine_line, h]

@[simp] theorem setLine_setLine (i : Fin 8) (x y : Line) : (s.setLine i x).setLine i y = s.setLine i y := by
  simp [State.setLine]

@[simp] theorem setWindow_window_same (m : Fin 8) (w : Fin 2) (x : Window) : (s.setWindow m w x).window m w = x := by
  simp [setWindow_window]

@[simp] theorem setWindow_setWindow (m : Fin 8) (w : Fin 2) (x y : Window) : (s.setWindow m w x).setWindow m w y = s.setWindow m w y := by
  simp [State.setWindow]

@[simp] theorem mapChannels_channel (f : Fin 16 → Channel → Channel) (c : Fin 16) :
    (s.mapChannels f).channel c = f c (s.channel c) := by
  simp [State.mapChannels, State.channel]

@[simp] theorem mapWindows_window (f : Fin 8 → Fin 2 → Window → Window) (m : Fin 8) (w : Fin 2) :
    (s.mapWindows f).window m w = f m w (s.window m w) := by
  have h1 : (2 * m.val + w.val) / 2 = m.val := by omega
  have h2 : (2 * m.val + w.val) % 2 = w.val := by omega
  simp [State.mapWindows, State.window, windowIndex, h1, h2]

/-- Two states with the same records and fields are the same state. -/
theorem State.ext_records {s t : State} (hw : ∀ m w, s.window m w = t.window m w) (hm : ∀ m, s.master m = t.master m)
    (hl : ∀ n, s.lease n = t.lease n) (ho : ∀ m, s.offerList m = t.offerList m) (hc : ∀ c, s.channel c = t.channel c)
    (hk : ∀ k, s.line k = t.line k) (h1 : s.claims = t.claims) (h2 : s.arrivals = t.arrivals) (h3 : s.baseA = t.baseA)
    (h4 : s.baseB = t.baseB) (h5 : s.expiryA = t.expiryA) (h6 : s.expiryB = t.expiryB) (h7 : s.deviceNotice = t.deviceNotice)
    (h8 : s.freeze = t.freeze) (h9 : s.resetAsserted = t.resetAsserted) (h10 : s.freeCount = t.freeCount)
    (h11 : s.pending = t.pending) : s = t := by
  have hwin : s.windows = t.windows := by
    ext1 i hi
    have e : windowIndex ⟨i / 2, by omega⟩ ⟨i % 2, by omega⟩ = ⟨i, hi⟩ := by simp [windowIndex, Fin.ext_iff]; omega
    have h := hw ⟨i / 2, by omega⟩ ⟨i % 2, by omega⟩
    simpa [State.window, e] using h
  have hmas : s.masters = t.masters := by ext1 i hi; exact hm ⟨i, hi⟩
  have hlea : s.leases = t.leases := by ext1 i hi; exact hl ⟨i, hi⟩
  have hoff : s.offers = t.offers := by ext1 i hi; exact ho ⟨i, hi⟩
  have hcha : s.channels = t.channels := by ext1 i hi; exact hc ⟨i, hi⟩
  have hlin : s.lines = t.lines := by ext1 i hi; exact hk ⟨i, hi⟩
  cases s; cases t; simp_all

end Sys2Proof.Machine
end

