-- ==== Sys2Proof/Laws/Ops.lean ====
section
/-! SUPPORT. What each shared operation does, said once: the searches over the tables, the expiry queues, the updates of one record, the
scan, the parts of an A-tick, the closing of a tick, and the taking of a command. -/

namespace Sys2Proof.Machine

variable (s : State)

/-! ### Operands -/

theorem handleWord_toNat (n : Fin 64) (g : BitVec 8) : (handleWord n g).toNat = g.toNat * 64 + n.val := by
  have hg := g.isLt
  have hn := n.isLt
  have e : g.toNat <<< 6 % 65536 = g.toNat * 64 := by rw [Nat.shiftLeft_eq]; omega
  have d : n.val % 65536 = n.val := by omega
  simp only [handleWord, BitVec.toNat_or, BitVec.toNat_shiftLeft, BitVec.toNat_setWidth, BitVec.toNat_ofNat]
  norm_num
  rw [Nat.mod_eq_of_lt (by omega : g.toNat < 65536), e, d]
  have := Nat.two_pow_add_eq_or_of_lt (i := 6) hn g.toNat
  rw [mul_comm, ← this]

/-- R173: a handle word gives back its lease number. -/
@[simp] theorem handleLease_handleWord (n : Fin 64) (g : BitVec 8) : handleLease (handleWord n g) = n := by
  have := n.isLt
  simp only [handleLease, handleWord_toNat, Fin.ext_iff]; omega

/-- R173: a handle word gives back its generation. -/
@[simp] theorem handleGeneration_handleWord (n : Fin 64) (g : BitVec 8) : handleGeneration (handleWord n g) = g := by
  have hn := n.isLt
  have hg := g.isLt
  apply BitVec.eq_of_toNat_eq
  simp only [handleGeneration, BitVec.extractLsb'_toNat, handleWord_toNat, Nat.shiftRight_eq_div_pow]
  omega

@[simp] theorem resultWords_get (l : List Word) (i : Fin 12) : (resultWords l)[i] = l.getD i.val 0 := by
  simp [resultWords]

/-- Result words with no items are all 0 (R163). -/
@[simp] theorem resultWords_nil : resultWords [] = Vector.replicate 12 0 := by decide

@[simp] theorem eightOfWord_natWord (k : Fin 8) : eightOfWord (natWord k.val) = k := by
  revert k; decide

@[simp] theorem channelOfWord_natWord (c : Fin 16) : channelOfWord (natWord c.val) = c := by
  revert c; decide

/-! ### Searches -/

theorem lowestIn_eq_some {set : ChannelSet} {p : Fin 16 → Bool} {c : Fin 16} :
    lowestIn set p = some c ↔
      set.getLsbD c.val = true ∧ p c = true ∧ ∀ d : Fin 16, d.val < c.val → set.getLsbD d.val = true → p d = false := by
  simp only [lowestIn, List.find?_eq_some_iff_getElem]
  constructor
  · rintro ⟨h, i, hi, e, hlt⟩
    simp only [List.getElem_finRange, Fin.ext_iff, Fin.val_cast] at e
    simp only [Bool.and_eq_true] at h
    refine ⟨h.1, h.2, fun d hd hs => ?_⟩
    have hd' := hlt d.val (by omega)
    have e' : (List.finRange 16)[d.val]'(by simp) = d := by simp
    rw [e', hs] at hd'
    simpa using hd'
  · rintro ⟨h1, h2, h3⟩
    refine ⟨by simp [h1, h2], c.val, by simp, by simp, fun j hj => ?_⟩
    have := h3 ⟨j, by omega⟩ hj
    simp only [List.getElem_finRange, Fin.cast_mk]
    cases e : set.getLsbD j <;> simp_all

theorem lowestIn_eq_none {set : ChannelSet} {p : Fin 16 → Bool} :
    lowestIn set p = none ↔ ∀ c : Fin 16, set.getLsbD c.val = true → p c = false := by
  simp only [lowestIn, List.find?_eq_none, List.mem_finRange, true_implies, Bool.and_eq_true, not_and, Bool.not_eq_true]

theorem channelSetOf_getLsbD (p : Fin 16 → Bool) (c : Fin 16) : (channelSetOf p).getLsbD c.val = p c := by
  have hbit : ∀ d : Fin 16, (1#16 <<< d.val).getLsbD c.val = decide (c = d) := by revert c; decide
  have key : ∀ l : List (Fin 16),
      (l.foldr (fun d acc => if p d then acc ||| (1#16 <<< d.val) else acc) 0).getLsbD c.val = (decide (c ∈ l) && p c) := by
    intro l
    induction l with
    | nil => rw [List.foldr_nil]; exact BitVec.getLsbD_zero
    | cons d l ih =>
      rw [List.foldr_cons]
      by_cases hp : p d = true
      · rw [if_pos hp, BitVec.getLsbD_or, ih, hbit]
        by_cases h : c = d
        · subst h; simp [hp]
        · simp [h]
      · rw [if_neg hp, ih]
        by_cases h : c = d
        · subst h; simp [hp]
        · simp [h]
  rw [channelSetOf, key]; simp

theorem lowestFree_eq_some {n : Fin 64} :
    s.lowestFree = some n ↔ (s.lease n).state = .free ∧ ∀ k : Fin 64, k.val < n.val → (s.lease k).state ≠ .free := by
  simp only [State.lowestFree, List.find?_eq_some_iff_getElem]
  constructor
  · rintro ⟨h, i, hi, e, hlt⟩
    simp only [List.getElem_finRange, Fin.ext_iff, Fin.val_cast] at e
    refine ⟨by simpa using h, fun k hk => ?_⟩
    have := hlt k.val (by omega)
    simpa using this
  · rintro ⟨h1, h2⟩
    refine ⟨by simp [h1], n.val, by simp, by simp, fun j hj => ?_⟩
    have := h2 ⟨j, by omega⟩ hj
    simpa using this

theorem lowestFree_eq_none : s.lowestFree = none ↔ ∀ n : Fin 64, (s.lease n).state ≠ .free := by
  simp [State.lowestFree]

theorem isReserved_iff (c : Fin 16) : s.isReserved c = true ↔ ∃ q ∈ s.claims, q.channels.getLsbD c.val = true := by
  simp [State.isReserved]

theorem allIdle_iff (set : ChannelSet) :
    s.allIdle set = true ↔ ∀ c : Fin 16, set.getLsbD c.val = true → (s.channel c).state = .idle := by
  simp only [State.allIdle, List.all_eq_true, List.mem_finRange, true_implies, Bool.or_eq_true, Bool.not_eq_true', beq_iff_eq]
  refine forall_congr' fun c => ?_
  cases set.getLsbD c.val <;> simp

theorem lease_live_iff (l : Lease) : l.live = true ↔ l.state = .held ∨ l.state = .grace := by simp [Lease.live]

theorem channel_governed_iff (ch : Channel) : ch.governed = true ↔ ch.state = .active ∨ ch.state = .parked := by
  simp [Channel.governed]

theorem channel_drains_iff (ch : Channel) :
    ch.drains = true ↔ ch.state = .active ∧ ch.wave.mode = .periodic ∧ ch.config.releaseStyle = .atBoundary := by
  simp [Channel.drains, and_assoc]

theorem ownGoverned_iff (m : Fin 8) (c : Fin 16) :
    s.ownGoverned m c = true ↔
      ((s.channel c).state = .active ∨ (s.channel c).state = .parked)
      ∧ ∃ n, (s.channel c).governing = some n ∧ (s.lease n).live = true ∧ (s.lease n).holder = some m := by
  simp only [State.ownGoverned, State.governor, ← channel_governed_iff]
  cases hg : (s.channel c).governed <;> cases (s.channel c).governing <;> simp

/-! ### Updates of one record -/

theorem raiseNotice_lease (n k : Fin 64) (kind : NoticeKind) :
    (s.raiseNotice n kind).lease k = if k = n then (s.lease n).raise kind else s.lease k := by
  simp [State.raiseNotice, setLease_lease]

theorem unbindLine_line (j : Option (Fin 8)) (k : Fin 8) :
    (s.unbindLine j).line k = if j = some k then { s.line k with bound := none } else s.line k := by
  cases j with
  | none => rfl
  | some j => by_cases h : k = j <;> simp_all [State.unbindLine, setLine_line, eq_comm]

theorem bindLine_line (j : Option (Fin 8)) (n : Fin 64) (k : Fin 8) :
    (s.bindLine j n).line k = if j = some k then { s.line k with bound := some n } else s.line k := by
  cases j with
  | none => rfl
  | some j => by_cases h : k = j <;> simp_all [State.bindLine, setLine_line, eq_comm]

theorem leaveOffers_offerList (target : Option (Fin 8)) (n : Fin 64) (k : Fin 8) :
    (s.leaveOffers target n).offerList k = if target = some k then (s.offerList k).filter (· != n) else s.offerList k := by
  cases target with
  | none => rfl
  | some j => by_cases h : k = j <;> simp_all [State.leaveOffers, setOfferList_offerList, eq_comm]

/-- An unbinding as an update of the table of lines alone. -/
theorem unbindLine_eq (j : Option (Fin 8)) :
    s.unbindLine j =
      { s with lines := tabulate fun k => if j = some k then { s.line k with bound := none } else s.line k } := by
  apply State.ext_records <;> intros <;> first | (cases j <;> rfl) | skip
  rw [unbindLine_line]; simp [State.line]

/-- A binding as an update of the table of lines alone. -/
theorem bindLine_eq (j : Option (Fin 8)) (n : Fin 64) :
    s.bindLine j n =
      { s with lines := tabulate fun k => if j = some k then { s.line k with bound := some n } else s.line k } := by
  apply State.ext_records <;> intros <;> first | (cases j <;> rfl) | skip
  rw [bindLine_line]; simp [State.line]

/-- A withdrawal as an update of the offer lists alone. -/
theorem leaveOffers_eq (target : Option (Fin 8)) (n : Fin 64) :
    s.leaveOffers target n =
      { s with offers := tabulate fun k =>
          if target = some k then (s.offerList k).filter (· != n) else s.offerList k } := by
  apply State.ext_records <;> intros <;> first | (cases target <;> rfl) | skip
  rw [leaveOffers_offerList]; simp [State.offerList]

theorem lowerCount_master (m : Option (Fin 8)) (k : Fin 8) :
    (s.lowerCount m).master k = if m = some k then { s.master k with count := (s.master k).count - 1 } else s.master k := by
  cases m with
  | none => rfl
  | some j => by_cases h : k = j <;> simp_all [State.lowerCount, setMaster_master, eq_comm]

theorem raiseCount_master (m k : Fin 8) :
    (s.raiseCount m).master k = if k = m then { s.master m with count := (s.master m).count + 1 } else s.master k := by
  simp [State.raiseCount, setMaster_master]

@[simp] theorem releaseChannels_channel (set : ChannelSet) (c : Fin 16) :
    (s.releaseChannels set).channel c = if set.getLsbD c.val then (s.channel c).release else s.channel c := by
  simp [State.releaseChannels]

@[simp] theorem governChannels_channel (set : ChannelSet) (n : Fin 64) (c : Fin 16) :
    (s.governChannels set n).channel c = if set.getLsbD c.val then (s.channel c).enterActive n else s.channel c := by
  simp [State.governChannels]

theorem drainingOf_getLsbD (set : ChannelSet) (c : Fin 16) :
    (s.drainingOf set).getLsbD c.val = (set.getLsbD c.val && (s.channel c).drains) := by
  rw [State.drainingOf, channelSetOf_getLsbD]

/-! ### Expiry queues -/

theorem mem_insertByDistance {d : Fin 64 → Int} {n x : Fin 64} {q : List (Fin 64)} :
    x ∈ insertByDistance d n q ↔ x = n ∨ x ∈ q := by
  induction q with
  | nil => simp [insertByDistance]
  | cons y ys ih =>
    by_cases h : d y ≤ d n
    · simp [insertByDistance, h, ih]; tauto
    · simp [insertByDistance, h]

theorem insertByDistance_perm (d : Fin 64 → Int) (n : Fin 64) (q : List (Fin 64)) : (insertByDistance d n q).Perm (n :: q) := by
  induction q with
  | nil => exact .refl _
  | cons y ys ih =>
    by_cases h : d y ≤ d n
    · simpa [insertByDistance, h] using (ih.cons y).trans (.swap n y ys)
    · simp [insertByDistance, h]

theorem insertByDistance_length (d : Fin 64 → Int) (n : Fin 64) (q : List (Fin 64)) :
    (insertByDistance d n q).length = q.length + 1 := by
  simpa using (insertByDistance_perm d n q).length_eq

/-- The order of a queue depends on the distances of its members and the newcomer alone. -/
theorem insertByDistance_congr {d e : Fin 64 → Int} {n : Fin 64} {q : List (Fin 64)} (hn : d n = e n) (h : ∀ x ∈ q, d x = e x) :
    insertByDistance d n q = insertByDistance e n q := by
  induction q with
  | nil => rfl
  | cons y ys ih =>
    have hy := h y (by simp)
    simp [insertByDistance, hn, hy, ih fun x hx => h x (by simp [hx])]

/-- A removal as an update of the two queues alone. -/
theorem leaveExpiry_eq (base : Base) (n : Fin 64) :
    s.leaveExpiry base n =
      { s with
        expiryA := if base = .a then s.expiryA.filter (· != n) else s.expiryA
        expiryB := if base = .b then s.expiryB.filter (· != n) else s.expiryB } := by
  cases base <;> rfl

theorem leaveExpiry_expiryQueue (base base' : Base) (n : Fin 64) :
    (s.leaveExpiry base n).expiryQueue base' =
      if base' = base then (s.expiryQueue base).filter (· != n) else s.expiryQueue base' := by
  simp [State.leaveExpiry, setExpiryQueue_expiryQueue]

theorem enterExpiry_expiryQueue (base base' : Base) (n : Fin 64) :
    (s.enterExpiry base n).expiryQueue base' =
      if base' = base then insertByDistance (fun x => distance (s.lease x).expiry (s.now base)) n (s.expiryQueue base)
      else s.expiryQueue base' := by
  simp [State.enterExpiry, setExpiryQueue_expiryQueue]

/-- R39, Requeue: the queue holds the lease once, and its other members as before. -/
theorem mem_requeue {base : Base} {n x : Fin 64} :
    x ∈ (s.requeue base n).expiryQueue base ↔ x = n ∨ (x ∈ s.expiryQueue base ∧ x ≠ n) := by
  simp [State.requeue, enterExpiry_expiryQueue, leaveExpiry_expiryQueue, mem_insertByDistance]

theorem requeue_other {base base' : Base} (h : base' ≠ base) (n : Fin 64) :
    (s.requeue base n).expiryQueue base' = s.expiryQueue base' := by
  simp [State.requeue, enterExpiry_expiryQueue, leaveExpiry_expiryQueue, h]

theorem requeue_eq_setExpiryQueue (base : Base) (n : Fin 64) :
    s.requeue base n = s.setExpiryQueue base
      (insertByDistance (fun x => distance (s.lease x).expiry (s.now base)) n ((s.expiryQueue base).filter (· != n))) := by
  cases base <;> rfl

/-! ### The scan -/

/-- A grant of a waiting claim leaves everything but leases, the claim's queue, channels, lines, its master's count and its window. -/
theorem grantWaiting_frame (q : Claim) (n : Fin 64) :
    (s.grantWaiting q n).offers = s.offers ∧ (s.grantWaiting q n).claims = s.claims ∧ (s.grantWaiting q n).arrivals = s.arrivals
    ∧ (s.grantWaiting q n).baseA = s.baseA ∧ (s.grantWaiting q n).baseB = s.baseB
    ∧ (s.grantWaiting q n).deviceNotice = s.deviceNotice ∧ (s.grantWaiting q n).freeze = s.freeze
    ∧ (s.grantWaiting q n).resetAsserted = s.resetAsserted ∧ (s.grantWaiting q n).freeCount = s.freeCount
    ∧ (s.grantWaiting q n).pending = s.pending := by
  cases q with
  | mk master window channels base term grace graceAction urgency boundaryNotices line deadline arrival =>
    cases base <;> cases line <;> simp [State.grantWaiting, State.completeLate, State.grant, State.raiseCount, State.bindLine,
      State.governChannels, State.enterExpiry, State.setExpiryQueue]

theorem scanWalk_frame (reserved : ChannelSet) (qs : List Claim) :
    (s.scanWalk reserved qs).1.offers = s.offers ∧ (s.scanWalk reserved qs).1.claims = s.claims
    ∧ (s.scanWalk reserved qs).1.arrivals = s.arrivals ∧ (s.scanWalk reserved qs).1.baseA = s.baseA
    ∧ (s.scanWalk reserved qs).1.baseB = s.baseB ∧ (s.scanWalk reserved qs).1.deviceNotice = s.deviceNotice
    ∧ (s.scanWalk reserved qs).1.freeze = s.freeze ∧ (s.scanWalk reserved qs).1.resetAsserted = s.resetAsserted
    ∧ (s.scanWalk reserved qs).1.freeCount = s.freeCount ∧ (s.scanWalk reserved qs).1.pending = s.pending := by
  induction qs generalizing s reserved with
  | nil => simp [State.scanWalk]
  | cons q qs ih =>
    unfold State.scanWalk
    split
    · rename_i n _
      have h := ih (s.grantWaiting q n) reserved
      have g := grantWaiting_frame s q n
      simp_all
    · exact ih s (reserved ||| q.channels)

/-- A scan leaves offers, bases, pins, the arrival counter and the device notice as they are. -/
theorem scan_frame :
    s.scan.offers = s.offers ∧ s.scan.arrivals = s.arrivals ∧ s.scan.baseA = s.baseA ∧ s.scan.baseB = s.baseB
    ∧ s.scan.deviceNotice = s.deviceNotice ∧ s.scan.freeze = s.freeze ∧ s.scan.resetAsserted = s.resetAsserted
    ∧ s.scan.freeCount = s.freeCount ∧ s.scan.pending = s.pending := by
  have h := scanWalk_frame s 0 s.claims
  simp only [State.scan]
  tauto

/-- With no claim waiting, a scan changes nothing. -/
theorem scan_of_no_claims (h : s.claims = []) : s.scan = s := by
  cases s; simp_all [State.scan, State.scanWalk]

theorem scanTriggered_iff (t : State) :
    scanTriggered s t = true ↔
      (∃ c, (s.channel c).state ≠ .idle ∧ (t.channel c).state = .idle)
      ∨ (∃ n, (s.lease n).state ≠ .free ∧ (t.lease n).state = .free)
      ∨ (∃ m, (t.master m).count < (s.master m).count ∨ (s.master m).quota < (t.master m).quota
          ∨ ((s.master m).enabled = false ∧ (t.master m).enabled = true))
      ∨ t.claims.length < s.claims.length := by
  simp [scanTriggered, or_assoc]

/-- An event that changes nothing leads to no scan. -/
@[simp] theorem closeEvent_self : closeEvent s s = s := by
  have : scanTriggered s s = false := by
    rw [Bool.eq_false_iff, ne_eq, scanTriggered_iff]; simp
  simp [closeEvent, this]

/-! ### Claims that leave the queue -/

@[simp] theorem removeClaims_claims (p : Claim → Bool) : (s.removeClaims p).claims = s.claims.filter fun q => !p q := rfl

@[simp] theorem endClaims_claims (p : Claim → Bool) (code : ResultCode) :
    (s.endClaims p code).claims = s.claims.filter fun q => !p q := rfl

theorem endClaims_window (p : Claim → Bool) (code : ResultCode) (m : Fin 8) (w : Fin 2) :
    (s.endClaims p code).window m w =
      if s.claims.any (fun q => p q && q.isIn m w) then (s.window m w).completeLate code [] else s.window m w :=
  mapWindows_window s (fun m w x => if s.claims.any (fun q => p q && q.isIn m w) then x.completeLate code [] else x) m w

theorem claim_isIn_iff (q : Claim) (m : Fin 8) (w : Fin 2) : q.isIn m w = true ↔ q.master = m ∧ q.window = w := by
  simp [Claim.isIn]

/-! ### The parts of an A-tick -/

theorem takeComparators_of_not_due {c : Fin 16} (h : s.comparatorDue c = false) : s.takeComparators c = s := by
  simp [State.takeComparators, h]

theorem takeWidthEdge_of_not_due {c : Fin 16} (h : s.widthEdgeDue c = false) : s.takeWidthEdge c = s := by
  simp [State.takeWidthEdge, h]

theorem takeBoundary_of_not_due {c : Fin 16} (h : s.boundaryDue c = false) : s.takeBoundary c = s := by
  simp [State.takeBoundary, h]

theorem takeDrainEnd_of_not_due {c : Fin 16} (h : s.drainEndDue c = false) : s.takeDrainEnd c = s := by
  simp [State.takeDrainEnd, h]

theorem takeWaitDeadlines_of_not_due (h : s.waitDeadlineDue = false) : s.takeWaitDeadlines = s := by
  simp [State.takeWaitDeadlines, h]

theorem takeStall_of_not_due (h : s.stallDue = false) : s.takeStall = s := by simp [State.takeStall, h]

/-- No part is open exactly when no condition holds. -/
theorem openParts_eq_nil :
    s.openParts = [] ↔
      s.stallDue = false ∧ s.waitDeadlineDue = false
      ∧ ∀ c, s.comparatorDue c = false ∧ s.widthEdgeDue c = false ∧ s.boundaryDue c = false ∧ s.drainEndDue c = false := by
  simp only [State.openParts, List.append_eq_nil_iff, List.flatMap_eq_nil_iff, List.mem_finRange, true_implies, and_assoc]
  simp

theorem quiet_iff :
    s.quiet = true ↔ s.aTickDue = false ∧ s.bTickDue = false ∧ s.stallDue = false ∧ s.waitDeadlineDue = false
      ∧ ∀ c, s.comparatorDue c = false ∧ s.widthEdgeDue c = false ∧ s.boundaryDue c = false ∧ s.drainEndDue c = false := by
  simp only [State.quiet, Bool.and_eq_true, Bool.not_eq_true', List.isEmpty_iff, openParts_eq_nil, and_assoc]

theorem startTicks_of_not_due (ha : s.aTickDue = false) (hb : s.bTickDue = false) : s.startTicks = s := by
  simp [State.startTicks, ha, hb]

/-- A state with nothing due and nothing open is closed already. -/
theorem closeTick_of_quiet (h : s.quiet = true) : s.closeTick = s := by
  have hq := (quiet_iff s).1 h
  have hg : s.takeGenerators = s := by
    have key : ∀ l : List (Fin 16), l.foldl (fun t c => ((t.takeComparators c).takeWidthEdge c).takeBoundary c) s = s := by
      intro l
      induction l with
      | nil => rfl
      | cons c l ih =>
        obtain ⟨h1, h2, h3, _⟩ := hq.2.2.2.2 c
        simpa [takeComparators_of_not_due s h1, takeWidthEdge_of_not_due s h2, takeBoundary_of_not_due s h3] using ih
    exact key _
  have ho : s.openParts = [] := (openParts_eq_nil s).2 ⟨hq.2.2.1, hq.2.2.2.1, hq.2.2.2.2⟩
  simp [State.closeTick, startTicks_of_not_due s hq.1 hq.2.1, hq.2.2.1, hg, openPartsBound, State.closeParts, ho]

/-! ### Events -/

/-- While RESET_N is asserted nothing is taken (R177). -/
theorem event_of_reset (f : State → State) (h : s.resetAsserted = true) : event f s = .next s := by simp [event, h]

theorem tickEvent_of_reset (f : State → State) (h : s.resetAsserted = true) : tickEvent f s = .next s := by simp [tickEvent, h]

/-- On a settled state an event is its own effect alone. -/
theorem event_of_settled (f : State → State) (h : s.resetAsserted = false ∧ s.quiet = true) : event f s = .next (f s) := by
  simp [event, h.1, closeTick_of_quiet s h.2]

/-- With no tick due a part of an A-tick, or an expiry event, is its own effect alone. -/
theorem tickEvent_of_not_due (f : State → State) (hr : s.resetAsserted = false) (ha : s.aTickDue = false) (hb : s.bTickDue = false) :
    tickEvent f s = .next (f s) := by
  simp [tickEvent, hr, startTicks_of_not_due s ha hb]

/-! ### Taking a command -/

variable (m : Fin 8) (w : Fin 2) (word : Word) (reserved bad : Args → Bool) (owner : Args → State → Reply)

/-- R162. -/
theorem takeCommand_busy (h : (s.window m w).state = .busy) :
    takeCommand m w word reserved bad owner s = s.setWindow m w { s.window m w with collision := true } := by
  simp [takeCommand, h, Window.collide]

/-- R167: a check of the port fails. -/
theorem takeCommand_refused {code : ResultCode} (hw : (s.window m w).state ≠ .busy)
    (h : portCheck s m (reserved (s.window m w).args) (bad (s.window m w).args) = some code) :
    takeCommand m w word reserved bad owner s = s.setWindow m w (((s.window m w).take word).complete code []) := by
  have h' : portCheck (s.setWindow m w ((s.window m w).take word)) m (reserved (s.window m w).args) (bad (s.window m w).args)
      = some code := by simpa [portCheck] using h
  simp [takeCommand, hw, h', State.complete]

/-- R161, R163: the owner completes the command in this event. -/
theorem takeCommand_answered {u : State} {code : ResultCode} {items : List Word} (hw : (s.window m w).state ≠ .busy)
    (hp : portCheck s m (reserved (s.window m w).args) (bad (s.window m w).args) = none)
    (ho : owner (s.window m w).args (s.setWindow m w ((s.window m w).take word)) = (u, some (code, items))) :
    takeCommand m w word reserved bad owner s = u.complete m w code items := by
  have h' : portCheck (s.setWindow m w ((s.window m w).take word)) m (reserved (s.window m w).args) (bad (s.window m w).args)
      = none := by simpa [portCheck] using hp
  simp [takeCommand, hw, h', ho]

/-- R161: the owner leaves the window BUSY. -/
theorem takeCommand_waits {u : State} (hw : (s.window m w).state ≠ .busy)
    (hp : portCheck s m (reserved (s.window m w).args) (bad (s.window m w).args) = none)
    (ho : owner (s.window m w).args (s.setWindow m w ((s.window m w).take word)) = (u, none)) :
    takeCommand m w word reserved bad owner s = u := by
  have h' : portCheck (s.setWindow m w ((s.window m w).take word)) m (reserved (s.window m w).args) (bad (s.window m w).args)
      = none := by simpa [portCheck] using hp
  simp [takeCommand, hw, h', ho]

/-- R167: the port passes a command of an enabled master that is not reserved from it and has no bad argument. -/
theorem portCheck_eq_none (reserved bad : Bool) :
    portCheck s m reserved bad = none ↔ (s.master m).enabled = true ∧ (reserved = false ∨ m = 0) ∧ bad = false := by
  have hm : (m != 0) = true ↔ m ≠ 0 := bne_iff_ne
  cases reserved <;> cases bad <;> cases h : (s.master m).enabled <;> cases h0 : m != 0 <;> simp_all [portCheck]

/-- R7: the handle checks pass. -/
theorem checkHandle_eq_none (h : Word) (holder lapsed : Bool) :
    s.checkHandle m h holder lapsed = none ↔
      (s.lease (handleLease h)).state ≠ .free ∧ (s.lease (handleLease h)).generation = handleGeneration h
      ∧ (holder = true → (s.lease (handleLease h)).holder = some m) ∧ (lapsed = true → (s.lease (handleLease h)).state ≠ .lapsed) := by
  simp only [State.checkHandle]
  by_cases h1 : (s.lease (handleLease h)).state = .free <;>
    by_cases h2 : (s.lease (handleLease h)).generation = handleGeneration h <;>
    by_cases h3 : (s.lease (handleLease h)).holder = some m <;>
    by_cases h4 : (s.lease (handleLease h)).state = .lapsed <;>
    cases holder <;> cases lapsed <;> simp_all

theorem onLease_of_pass {h : Word} {holder lapsed : Bool} (k : Fin 64 → Reply) (hc : s.checkHandle m h holder lapsed = none) :
    s.onLease m h holder lapsed k = k (handleLease h) := by simp [State.onLease, hc]

theorem onLease_of_refused {h : Word} {holder lapsed : Bool} {code : ResultCode} (k : Fin 64 → Reply)
    (hc : s.checkHandle m h holder lapsed = some code) : s.onLease m h holder lapsed k = answer s code := by
  simp [State.onLease, hc]

end Sys2Proof.Machine
end

