-- ==== Sys2Proof/Laws/Step.lean ====
section
/-! SUPPORT. Each row's meaning as an event, and: every row has a next state, no meaning ends in a fault or a refusal. -/

namespace Sys2Proof.Machine

/-! ### Each row as an event -/

theorem exec_claim (m : Fin 8) (w : Fin 2) (s : State) :
    exec (.claim m w) s = event (claimCommand m w) s := rfl

theorem exec_renew (m : Fin 8) (w : Fin 2) (s : State) :
    exec (.renew m w) s = event (renewCommand m w) s := rfl

theorem exec_setTerm (m : Fin 8) (w : Fin 2) (s : State) :
    exec (.setTerm m w) s = event (setTermCommand m w) s := rfl

theorem exec_setOptions (m : Fin 8) (w : Fin 2) (s : State) :
    exec (.setOptions m w) s = event (setOptionsCommand m w) s := rfl

theorem exec_addChannels (m : Fin 8) (w : Fin 2) (s : State) :
    exec (.addChannels m w) s = event (addChannelsCommand m w) s := rfl

theorem exec_dropChannels (m : Fin 8) (w : Fin 2) (s : State) :
    exec (.dropChannels m w) s = event (dropChannelsCommand m w) s := rfl

theorem exec_release (m : Fin 8) (w : Fin 2) (s : State) :
    exec (.release m w) s = event (releaseCommand m w) s := rfl

theorem exec_retire (m : Fin 8) (w : Fin 2) (s : State) :
    exec (.retire m w) s = event (retireCommand m w) s := rfl

theorem exec_purge (m : Fin 8) (w : Fin 2) (s : State) :
    exec (.purge m w) s = event (purgeCommand m w) s := rfl

theorem exec_revoke (m : Fin 8) (w : Fin 2) (s : State) :
    exec (.revoke m w) s = event (revokeCommand m w) s := rfl

theorem exec_offer (m : Fin 8) (w : Fin 2) (s : State) :
    exec (.offer m w) s = event (offerCommand m w) s := rfl

theorem exec_withdraw (m : Fin 8) (w : Fin 2) (s : State) :
    exec (.withdraw m w) s = event (withdrawCommand m w) s := rfl

theorem exec_accept (m : Fin 8) (w : Fin 2) (s : State) :
    exec (.accept m w) s = event (acceptCommand m w) s := rfl

theorem exec_decline (m : Fin 8) (w : Fin 2) (s : State) :
    exec (.decline m w) s = event (declineCommand m w) s := rfl

theorem exec_listOffers (m : Fin 8) (w : Fin 2) (s : State) :
    exec (.listOffers m w) s = event (listOffersCommand m w) s := rfl

theorem exec_queryLease (m : Fin 8) (w : Fin 2) (s : State) :
    exec (.queryLease m w) s = event (queryLeaseCommand m w) s := rfl

theorem exec_findChannel (m : Fin 8) (w : Fin 2) (s : State) :
    exec (.findChannel m w) s = event (findChannelCommand m w) s := rfl

theorem exec_queryClaims (m : Fin 8) (w : Fin 2) (s : State) :
    exec (.queryClaims m w) s = event (queryClaimsCommand m w) s := rfl

theorem exec_resetTable (m : Fin 8) (w : Fin 2) (s : State) :
    exec (.resetTable m w) s = event (resetTableCommand m w) s := rfl

theorem exec_setMode (m : Fin 8) (w : Fin 2) (s : State) :
    exec (.setMode m w) s = event (setModeCommand m w) s := rfl

theorem exec_setLevel (m : Fin 8) (w : Fin 2) (s : State) :
    exec (.setLevel m w) s = event (setLevelCommand m w) s := rfl

theorem exec_armSingle (m : Fin 8) (w : Fin 2) (s : State) :
    exec (.armSingle m w) s = event (armSingleCommand m w) s := rfl

theorem exec_stagePeriodic (m : Fin 8) (w : Fin 2) (s : State) :
    exec (.stagePeriodic m w) s = event (stagePeriodicCommand m w) s := rfl

theorem exec_restartPeriodic (m : Fin 8) (w : Fin 2) (s : State) :
    exec (.restartPeriodic m w) s = event (restartPeriodicCommand m w) s := rfl

theorem exec_force (m : Fin 8) (w : Fin 2) (s : State) :
    exec (.force m w) s = event (forceCommand m w) s := rfl

theorem exec_nextNotice (m : Fin 8) (w : Fin 2) (s : State) :
    exec (.nextNotice m w) s = event (nextNoticeCommand m w) s := rfl

theorem exec_ackNotices (m : Fin 8) (w : Fin 2) (s : State) :
    exec (.ackNotices m w) s = event (ackNoticesCommand m w) s := rfl

theorem exec_ackDevice (m : Fin 8) (w : Fin 2) (s : State) :
    exec (.ackDevice m w) s = event (ackDeviceCommand m w) s := rfl

theorem exec_readTime (m : Fin 8) (w : Fin 2) (s : State) :
    exec (.readTime m w) s = event (readTimeCommand m w) s := rfl

theorem exec_setPrescaler (m : Fin 8) (w : Fin 2) (s : State) :
    exec (.setPrescaler m w) s = event (setPrescalerCommand m w) s := rfl

theorem exec_setBaseB (m : Fin 8) (w : Fin 2) (s : State) :
    exec (.setBaseB m w) s = event (setBaseBCommand m w) s := rfl

theorem exec_startBaseB (m : Fin 8) (w : Fin 2) (s : State) :
    exec (.startBaseB m w) s = event (startBaseBCommand m w) s := rfl

theorem exec_stopBaseB (m : Fin 8) (w : Fin 2) (s : State) :
    exec (.stopBaseB m w) s = event (stopBaseBCommand m w) s := rfl

theorem exec_configLine (m : Fin 8) (w : Fin 2) (s : State) :
    exec (.configLine m w) s = event (configLineCommand m w) s := rfl

theorem exec_queryLine (m : Fin 8) (w : Fin 2) (s : State) :
    exec (.queryLine m w) s = event (queryLineCommand m w) s := rfl

theorem exec_configChannel (m : Fin 8) (w : Fin 2) (s : State) :
    exec (.configChannel m w) s = event (configChannelCommand m w) s := rfl

theorem exec_configMasterSupervisor (m : Fin 8) (w : Fin 2) (s : State) :
    exec (.configMasterSupervisor m w) s = event (configMasterCommand m w) s := rfl

theorem exec_configMasterSelf (m : Fin 8) (w : Fin 2) (s : State) :
    exec (.configMasterSelf m w) s = event (configMasterCommand m w) s := rfl

theorem exec_disableMaster (m : Fin 8) (w : Fin 2) (s : State) :
    exec (.disableMaster m w) s = event (disableMasterCommand m w) s := rfl

theorem exec_unknownCommand (m : Fin 8) (w : Fin 2) (word : Word) (s : State) :
    exec (.unknownCommand m w word) s = event (writeCommandWord m w word) s := rfl

theorem exec_commandCollision (m : Fin 8) (w : Fin 2) (word : Word) (s : State) :
    exec (.commandCollision m w word) s = event (fun t => if (t.window m w).state = .busy then t.setWindow m w (t.window m w).collide else writeCommandWord m w word t) s := rfl

theorem exec_abort (m : Fin 8) (w : Fin 2) (s : State) :
    exec (.abort m w) s = event (abortControl m w) s := rfl

theorem exec_resultTaken (m : Fin 8) (w : Fin 2) (s : State) :
    exec (.resultTaken m w) s = event (resultTakenControl m w) s := rfl

theorem exec_windowReset (m : Fin 8) (w : Fin 2) (s : State) :
    exec (.windowReset m w) s = event (windowResetControl m w) s := rfl

theorem exec_argumentWordWrite (m : Fin 8) (w : Fin 2) (index : Fin 8) (value : Word) (s : State) :
    exec (.argumentWordWrite m w index value) s = event (writeArgument m w index value) s := rfl

theorem exec_discardedWrite (m : Fin 8) (address : BitVec 6) (value : Word) (s : State) :
    exec (.discardedWrite m address value) s = event (busWrite m address value) s := rfl

theorem exec_resetN (asserted : Bool) (s : State) :
    exec (.resetN asserted) s = if asserted then .next s.powerOn else .next { s with resetAsserted := false } := rfl

theorem exec_freeze (asserted : Bool) (s : State) :
    exec (.freeze asserted) s = if s.resetAsserted then .next { s with freeze := asserted } else event (fun t => t.setFreeze asserted) s := rfl

theorem exec_trefEdge (s : State) :
    exec (.trefEdge) s = event State.trefEdge s := rfl

theorem exec_bTick (s : State) :
    exec (.bTick) s = tickEvent (fun t => t) s := rfl

theorem exec_aTick (s : State) :
    exec (.aTick) s = if s.resetAsserted then .next s else if s.aTickDue then .next s.advanceA else .next s := rfl

theorem exec_expiryEvent (base : Base) (s : State) :
    exec (.expiryEvent base) s = tickEvent (fun t => t.takeExpiry base) s := rfl

theorem exec_stallEvent (s : State) :
    exec (.stallEvent) s = tickEvent State.takeStall s := rfl

theorem exec_waitDeadline (s : State) :
    exec (.waitDeadline) s = tickEvent State.takeWaitDeadlines s := rfl

theorem exec_comparatorMatch (c : Fin 16) (s : State) :
    exec (.comparatorMatch c) s = tickEvent (fun t => t.takeComparators c) s := rfl

theorem exec_widthEdge (c : Fin 16) (s : State) :
    exec (.widthEdge c) s = tickEvent (fun t => t.takeWidthEdge c) s := rfl

theorem exec_boundary (c : Fin 16) (s : State) :
    exec (.boundary c) s = tickEvent (fun t => t.takeBoundary c) s := rfl

theorem exec_drainEnd (c : Fin 16) (s : State) :
    exec (.drainEnd c) s = tickEvent (fun t => t.takeDrainEnd c) s := rfl

theorem exec_renewLineEdge (k : Fin 8) (rising : Bool) (phase : EdgePhase) (s : State) :
    exec (.renewLineEdge k rising phase) s = if s.resetAsserted then .next (s.edgeInReset k rising phase) else event (fun t => t.lineEdge k rising phase) s := rfl

theorem exec_systemClockPeriod (s : State) :
    exec (.systemClockPeriod) s = event State.clockPeriod s := rfl

/-! ### Every row has a next state -/

theorem event_answers_next (f : State → State) (s : State) : ∃ t, event f s = .next t := by
  unfold event; split <;> exact ⟨_, rfl⟩

theorem tickEvent_answers_next (f : State → State) (s : State) : ∃ t, tickEvent f s = .next t := by
  unfold tickEvent; split <;> exact ⟨_, rfl⟩

theorem exec_answers_next (i : Instr) (s : State) : ∃ t, exec i s = .next t := by
  cases i
  case resetN asserted => cases asserted <;> simp [exec, execResetN]
  case freeze asserted =>
    simp only [exec, execFreeze]; split
    · exact ⟨_, rfl⟩
    · exact event_answers_next ..
  case renewLineEdge line rising phase =>
    simp only [exec, execRenewLineEdge]; split
    · exact ⟨_, rfl⟩
    · exact event_answers_next ..
  case aTick =>
    simp only [exec, execATick]; split
    · exact ⟨_, rfl⟩
    · split <;> exact ⟨_, rfl⟩
  all_goals simp only [exec, event_answers_next, tickEvent_answers_next,
    execClaim, execRenew, execSetTerm, execSetOptions, execAddChannels, execDropChannels, execRelease, execRetire, execPurge,
    execRevoke, execOffer, execWithdraw, execAccept, execDecline, execListOffers, execQueryLease, execFindChannel,
    execQueryClaims, execResetTable, execSetMode, execSetLevel, execArmSingle, execStagePeriodic, execRestartPeriodic,
    execForce, execNextNotice, execAckNotices, execAckDevice, execReadTime, execSetPrescaler, execSetBaseB, execStartBaseB,
    execStopBaseB, execConfigLine, execQueryLine, execConfigChannel, execConfigMasterSupervisor, execConfigMasterSelf,
    execDisableMaster, execUnknownCommand, execCommandCollision, execAbort, execResultTaken, execWindowReset,
    execArgumentWordWrite, execDiscardedWrite, execTrefEdge, execBTick, execExpiryEvent, execStallEvent, execWaitDeadline,
    execComparatorMatch, execWidthEdge, execBoundary, execDrainEnd, execSystemClockPeriod]

theorem step_answers_next (s : State) : ∃ t, step s = .next t := by
  unfold step; split
  · exact ⟨_, rfl⟩
  · exact exec_answers_next ..

end Sys2Proof.Machine
end

