-- ==== Sys2Proof/Laws/Terms.lean ====
section
/-! SUPPORT. The terms of Safety.lean and the shared operations say the same: one equation for each. -/

namespace Sys2Proof.Machine

variable (s : State)

/-! ### Windows -/

/-- A command that completes in the event that took it leaves its window done, and nothing else changed. -/
theorem take_complete_eq_doneWith (x : Window) (word : Word) (code : ResultCode) (items : List Word) :
    (x.take word).complete code items = x.doneWith word code items := rfl

/-- The effect of an owner that touches no window, with the result after it, is the effect with the window done. -/
theorem setWindow_take_complete (m : Fin 8) (w : Fin 2) (word : Word) (code : ResultCode) (items : List Word) :
    (s.setWindow m w ((s.window m w).take word)).complete m w code items = s.finish m w word code items := by
  simp [State.complete, State.finish, take_complete_eq_doneWith]

/-- R167: a command that the port refuses. -/
theorem takeCommand_refused_eq_finish (m : Fin 8) (w : Fin 2) (word : Word) (reserved bad : Args → Bool) (owner : Args → State → Reply)
    {code : ResultCode} (hw : (s.window m w).state ≠ .busy)
    (h : portCheck s m (reserved (s.window m w).args) (bad (s.window m w).args) = some code) :
    takeCommand m w word reserved bad owner s = s.finish m w word code [] :=
  takeCommand_refused s m w word reserved bad owner hw h

/-- R163: a command that its owner answers without changing anything. -/
theorem takeCommand_unchanged_eq_finish (m : Fin 8) (w : Fin 2) (word : Word) (reserved bad : Args → Bool)
    (owner : Args → State → Reply) {code : ResultCode} {items : List Word} (hw : (s.window m w).state ≠ .busy)
    (hp : portCheck s m (reserved (s.window m w).args) (bad (s.window m w).args) = none)
    (ho : owner (s.window m w).args (s.setWindow m w ((s.window m w).take word)) =
      answer (s.setWindow m w ((s.window m w).take word)) code items) :
    takeCommand m w word reserved bad owner s = s.finish m w word code items := by
  rw [takeCommand_answered s m w word reserved bad owner hw hp ho, setWindow_take_complete]

/-- R7: the handle checks in the two ways of naming them. -/
theorem checkHandle_eq_handleVerdict (m : Fin 8) (h : Word) (holder lapsed : Bool) :
    s.checkHandle m h holder lapsed = s.handleVerdict m h (holder, lapsed) := by
  simp only [State.checkHandle, State.handleVerdict, Bool.and_eq_true, bne_iff_ne, beq_iff_eq]

/-! ### Channels and leases -/

theorem enterIdle_eq_idled (ch : Channel) : ch.enterIdle = ch.idled := rfl

theorem enterActive_eq_taken (ch : Channel) (n : Fin 64) : ch.enterActive n = ch.taken n := rfl

theorem release_eq_afterRelease (ch : Channel) : ch.release = ch.afterRelease := by
  cases ch with
  | mk state governing config wave =>
    cases wave with
    | mk mode flipFlop level period width staged position rise fall =>
      cases config with
      | mk polarity safeLevel drive style permitted => cases state <;> cases mode <;> cases style <;> rfl

theorem drains_iff_wouldDrain (ch : Channel) : ch.drains = true ↔ ch.wouldDrain := channel_drains_iff ch

theorem rest_eq_blank (g : BitVec 8) : Lease.rest g = Lease.blank g := rfl

theorem lapsed_raise_eq_afterLapse (l : Lease) (why : EndReason) : (l.lapsed why).raise .lapsed = l.afterLapse why := rfl

theorem granted_eq_claimRecord_generation (g : BitVec 8) : nextGeneration g = if g = 255 then 1 else g + 1 := rfl

/-- What the lapse step and the freeing step do around a live lease. -/
theorem detach_eq_letGo (n : Fin 64) : s.detach n = s.letGo n := by
  simp only [State.detach, State.letGo, leaveExpiry_eq, unbindLine_eq, leaveOffers_eq, State.releaseChannels, State.mapChannels,
    release_eq_afterRelease]
  rfl

/-- The lapse step (R14). -/
theorem lapse_eq_lapsedBy (n : Fin 64) (why : EndReason) : s.lapse n why = s.lapsedBy n why := by
  simp [State.lapse, State.lapsedBy, State.raiseNotice, detach_eq_letGo, lapsed_raise_eq_afterLapse]

/-- The freeing step (R15) on a record that has a holder. -/
theorem freeLease_eq_freedFrom (n : Fin 64) (m : Fin 8) (h : (s.lease n).holder = some m) : s.freeLease n = s.freedFrom n m := by
  simp only [State.freeLease, State.freedFrom, h, ← lease_live_iff, detach_eq_letGo]
  rfl

/-- R68, step 5: the two ways of saying that the number of renewals stays at 65,535. -/
theorem renewals_saturate (r : Word) :
    (if r = 65535 then 65535 else r + 1) = if r.toNat < 65535 then r + 1 else 65535 := by
  have h := r.isLt
  by_cases e : r = 65535
  · subst e; rfl
  · have : r.toNat ≠ 65535 := fun h' => e (BitVec.eq_of_toNat_eq h')
    rw [if_neg e, if_pos (by omega)]

theorem mapChannels_id : s.mapChannels (fun _ ch => ch) = s := by
  apply State.ext_records <;> intros <;> simp

/-- The renewal (R68, R69). -/
theorem renewLease_eq_oneTermAhead (n : Fin 64) (stamp : Stamp) : s.renewLease n stamp = s.oneTermAhead n stamp := by
  have hr : (s.lease n).renewed (s.now (s.lease n).base) stamp =
      { s.lease n with
        state := .held, term := (s.lease n).stagedTerm.getD (s.lease n).term, stagedTerm := none
        expiry := s.now (s.lease n).base + ((s.lease n).stagedTerm.getD (s.lease n).term).setWidth 32
        renewals := if (s.lease n).renewals.toNat < 65535 then (s.lease n).renewals + 1 else 65535, lastRenewal := stamp } := by
    simp only [Lease.renewed, renewals_saturate]
  have hnow : ∀ (x : Lease) (base : Base), (s.setLease n x).now base = s.now base :=
    fun _ base => by cases base <;> rfl
  simp only [State.renewLease, State.oneTermAhead, requeue_eq_setExpiryQueue, hr, hnow, distance, setLease_expiryQueue]
  by_cases hg : (s.lease n).state = .grace
  · simp only [hg, if_true, true_and]
    congr 1
    funext c ch
    by_cases hc : (s.lease n).channels.getLsbD c.val = true
    · simp only [hc, Channel.unpark, if_true, true_and]
    · simp only [hc]; rfl
  · simp [hg, mapChannels_id]

/-! ### The grant queue and the expiry queues -/

/-- No waiting claim is grantable, said by the splits of the queue (R55). -/
theorem noneGrantable_iff_split :
    s.noneGrantable ↔
      ∀ (older newer : List Claim) (q : Claim), s.claims = older ++ q :: newer → ¬ s.grantableBehind older q := by
  constructor
  · intro h older newer q e
    have := h ⟨older.length, by rw [e]; simp⟩
    simpa [e] using this
  · intro h i
    refine h _ (s.claims.drop (i.val + 1)) _ ?_
    rw [Fin.getElem_fin, ← List.drop_eq_getElem_cons i.isLt, List.take_append_drop]

/-- With no claim waiting, none is grantable. -/
theorem noneGrantable_of_claims_nil (h : s.claims = []) : s.noneGrantable :=
  (noneGrantable_iff_split s).2 fun older newer q e => by simp [h] at e

/-- The distance by which a queue is ordered is that of R25. -/
theorem stampDistance_eq (base : Base) (n : Fin 64) : s.stampDistance base n = distance (s.lease n).expiry (s.now base) := rfl

/-- The order of R38, base by base. -/
theorem queuesOrdered_iff :
    s.queuesOrdered ↔
      ∀ base : Base, (s.expiryQueue base).Pairwise fun n k => s.stampDistance base n ≤ s.stampDistance base k :=
  ⟨fun h base => by cases base <;> [exact h.1; exact h.2], fun h => ⟨h .a, h .b⟩⟩

/-- R26, base by base. -/
theorem stampsNear_iff :
    s.stampsNear ↔ ∀ base : Base, ∀ n ∈ s.expiryQueue base, -2147483648 < s.stampDistance base n :=
  ⟨fun h base => by cases base <;> [exact h.1; exact h.2], fun h => ⟨h .a, h .b⟩⟩

end Sys2Proof.Machine
end

