-- ==== Sys2Proof/Tests/Slice0.lean ====
section
/-! SUPPORT. The tests: the checks of well-formedness, small steps with the results the manual states, and one witness for each statement
that has hypotheses. -/

set_option Elab.async false

namespace Sys2Proof.Tests

open Sys2Proof Sys2Proof.Machine

/-! ## Well-formedness: each check refuses an ill-formed term -/

theorem test_unknown_command_refuses_a_command_code : wellFormed (.unknownCommand 0 0 0x11) = false := by decide

theorem test_unknown_command_takes_other_words : wellFormed (.unknownCommand 0 0 0x0111) = true := by decide

theorem test_discarded_write_refuses_an_argument_word : wellFormed (.discardedWrite 0 0 0) = false := by decide

theorem test_discarded_write_refuses_a_named_control : wellFormed (.discardedWrite 0 9 4) = false := by decide

theorem test_discarded_write_takes_control_value_3 : wellFormed (.discardedWrite 0 9 3) = true := by decide

/-! ## States to test on -/

/-- Window `w` of master `m` holds these argument words, the rest 0. -/
def load (m : Fin 8) (w : Fin 2) (l : List Word) (s : State) : State :=
  s.setWindow m w { s.window m w with args := tabulate fun i => l.getD i.val 0 }

/-- The state after a row, where the row has a next state. -/
def run (i : Instr) (s : State) : State :=
  match exec i s with
  | .next t => t
  | .fault _ => s
  | .refused _ => s

/-- The result code and the first result words of a window. -/
def result (m : Fin 8) (w : Fin 2) (count : Nat) (s : State) : Option ResultCode × List Word :=
  ((s.window m w).code, (s.window m w).words.toList.take count)

/-- A command with these argument words, taken on this state: its result code and first result words. -/
def answers (i : Instr) (m : Fin 8) (w : Fin 2) (l : List Word) (count : Nat) (s : State) : Option ResultCode × List Word :=
  result m w count (run i (load m w l s))

/-- A live or lapsed record of generation 5. -/
def record (m : Fin 8) (channels : ChannelSet) (state : LeaseState) (base : Base) (expiry : Stamp) : Lease :=
  { Lease.rest 5 with
    state := state, holder := some m, channels := channels, base := base, term := 1000, grace := 200, graceAction := .park
    expiry := expiry, urgency := 3 }

/-- A channel in PERIODIC mode, period 10, width 4, at position 0, with release style AT_BOUNDARY. -/
def periodic (state : ChannelState) (governing : Option (Fin 64)) : Channel :=
  { Channel.powerOn with
    state := state, governing := governing, config := { Channel.powerOn.config with releaseStyle := .atBoundary }
    wave := { Waveform.rest with mode := .periodic, period := 10, width := 4, flipFlop := true } }

/-- The handle word of record `n` at generation 5. -/
def at5 (n : Fin 64) : Word := handleWord n 5

/-- Masters 0, 1 and 2 enabled; base B running. Master 2 holds lease 3 on channels 5 and 6, offered to master 1 and bound to line 2, and
lease 12 in grace on channel 8 and base B. Master 1 holds lease 20 on channel 0 (PERIODIC) and channel 1 (SINGLE), and the lapsed
lease 9. Channel 7 drains for window 1 of master 2. Window 1 of master 1 waits with a claim for channels 6 and 9. -/
def shop : State :=
  let s := State.reset
  let s := s.setMaster 1 { s.master 1 with enabled := true, count := 2 }
  let s := s.setMaster 2 { s.master 2 with enabled := true, count := 2 }
  let s := s.setLease 3 { record 2 0x0060 .held .a 6000 with line := some 2, offerTarget := some 1 }
  let s := s.setLease 12 { record 2 0x0100 .grace .b 900 with notices := 1, noticeCount := 1 }
  let s := s.setLease 20 { record 1 0x0003 .held .a 6500 with boundaryNotices := true, graceAction := .hold }
  let s := s.setLease 9
    { record 1 0 .lapsed .a 4000 with endReason := some .revoked, notices := 3, noticeCount := 2 }
  let s := (s.setChannel 5 (Channel.powerOn.enterActive 3)).setChannel 6 (Channel.powerOn.enterActive 3)
  let s := s.setChannel 8 { Channel.powerOn.enterActive 12 with state := .parked }
  let s := s.setChannel 0 (periodic .active (some 20))
  let s := s.setChannel 1
    { Channel.powerOn.enterActive 20 with wave := { Waveform.rest with mode := .single, rise := some 7000 } }
  let s := s.setChannel 7 (periodic .draining none)
  let s := s.setChannel 15 { Channel.powerOn with config := { Channel.powerOn.config with permitted := 0x01 } }
  let s := s.setLine 2 { s.line 2 with edge := .rising, bound := some 3 }
  let s := s.setLine 4 { s.line 4 with edge := .both }
  let s := s.setOfferList 1 [3]
  let s := s.setWindow 1 1 { Window.rest with state := .busy, command := 0x10 }
  let s := s.setWindow 2 1 { Window.rest with state := .busy, command := 0x16, drainSet := 0x80, released := 0x84, drained := 0x80 }
  let s := s.setWindow 2 0 { Window.rest with state := .done, command := 0x16, code := some .aborted, completionPending := true }
  { s with
    claims :=
      [{ master := 1, window := 1, channels := 0x0240, base := .a, term := 500, grace := 0, graceAction := .hold, urgency := 1,
         boundaryNotices := false, line := some 4, deadline := some 5500, arrival := 1 }]
    arrivals := 1
    baseA := { s.baseA with counter := 5000 }
    baseB := { s.baseB with state := .running, counter := 700, stallLimit := 50 }
    expiryA := [3, 20]
    expiryB := [12] }

/-- Base A of a state reads `now`. -/
def atA (now : Stamp) (s : State) : State := { s with baseA := { s.baseA with counter := now } }

/-- Base B of a state reads `now`. -/
def atB (now : Stamp) (s : State) : State := { s with baseB := { s.baseB with counter := now } }

/-- Channel `c` of a state has this waveform. -/
def waving (c : Fin 16) (v : Waveform) (s : State) : State := s.setChannel c { s.channel c with wave := v }

theorem shop_is_settled : shop.settled := by decide +kernel

theorem shop_is_kept : shop.kept := by and_intros <;> decide +kernel

/-! ## One step of each row -/

/-- R50, R12: granted on record 0 at base A 5000 with term 64; generation 1. -/
theorem test_claim_grants :
    let t := run (.claim 1 0) (load 1 0 [0x0204, 64, 0, 7, 0x0024, 0x8003, 0, 0] { shop with claims := [] })
    ((t.lease 0).state, (t.lease 0).generation, (t.lease 0).expiry, (t.lease 0).urgency) = (.held, 1, 5064, 2)
    ∧ ((t.channel 9).state, (t.line 3).bound, (t.master 1).count, t.expiryA) = (.active, some 0, 3, [0, 3, 20])
    ∧ result 1 0 3 t = (some .ok, [0x0040, 5064, 0]) := by decide +kernel

/-- R52: a claim for a busy channel waits with its deadline. -/
theorem test_claim_waits :
    let t := run (.claim 1 0) (load 1 0 [0x0020, 64, 0, 0, 0, 0, 100, 0] shop)
    ((t.window 1 0).state, t.claims.map (·.arrival), t.claims.map (·.deadline)) = (.busy, [1, 2], [some 5500, some 5100]) := by
  decide +kernel

/-- Section 2.7, base A 6150: a renewal in grace. -/
theorem test_renew_in_grace :
    let s := (atB 850 shop)
    let t := run (.renew 2 0) (load 2 0 [at5 12] s)
    ((t.lease 12).state, (t.lease 12).expiry, (t.lease 12).renewals, (t.channel 8).state, (t.lease 12).noticeCount)
      = (.held, 1850, 1, .active, 1) := by decide +kernel

theorem test_renew_of_a_lapsed_lease :
    answers (.renew 1 0) 1 0 [at5 9] 1 shop = (some .leaseLapsed, [0]) := by decide +kernel

/-- R70. -/
theorem test_set_term_stages :
    answers (.setTerm 2 0) 2 0 [at5 3, 600, 0] 5 shop = (some .ok, [1000, 0, 600, 0, 1]) := by decide +kernel

theorem test_set_options_sets_the_selected :
    answers (.setOptions 2 0) 2 0 [at5 3, 0b0101, 50, 0, 7] 4 shop = (some .ok, [50, 1, 7, 0]) := by decide +kernel

theorem test_add_channels :
    answers (.addChannels 2 0) 2 0 [at5 3, 0x0400] 1 shop = (some .ok, [0x0460]) := by decide +kernel

theorem test_add_channels_reserved :
    answers (.addChannels 2 0) 2 0 [at5 3, 0x0200] 2 shop = (some .channelReserved, [9, 1]) := by decide +kernel

/-- Section 4.5, the second example: the dropped channel drains, and no scan follows. -/
theorem test_drop_channels_drains :
    let t := run (.dropChannels 1 0) (load 1 0 [at5 20, 1] shop)
    ((t.lease 20).channels, (t.channel 0).state, (t.channel 0).governing, result 1 0 1 t)
      = (2, .draining, none, (some .ok, [2])) := by decide +kernel

/-- Section 5.8, the first example, base A 10,000: the record is FREE, the window waits with drain set. -/
theorem test_release_waits_for_the_drain :
    let t := run (.release 1 0) (load 1 0 [at5 20, 1] shop)
    ((t.lease 20).state, (t.channel 0).state, (t.channel 1).state, (t.window 1 0).state, (t.window 1 0).drainSet, (t.master 1).count)
      = (.free, .draining, .idle, .busy, 1, 1) := by decide +kernel

/-- R87: the scan after a release grants the waiting claim. -/
theorem test_release_lets_a_claim_in :
    let t := run (.release 2 0) (load 2 0 [at5 3, 0] shop)
    (result 2 0 2 t, t.claims, result 1 1 1 t, (t.channel 6).governing, (t.window 1 1).completionPending)
      = ((some .ok, [0x0060, 0]), [], (some .ok, [0x0040]), some 0, true) := by decide +kernel

/-- Section 5.8, the second example, base A 50,410. -/
theorem test_retire_reports_the_ending :
    answers (.retire 1 0) 1 0 [at5 9] 3 shop = (some .ok, [2, 3, 2]) := by decide +kernel

theorem test_purge_reports_the_holder :
    answers (.purge 0 0) 0 0 [at5 9] 4 shop = (some .ok, [1, 2, 3, 2]) := by decide +kernel

/-- Section 5.8, the second example, base A 50,120. -/
theorem test_revoke_lapses :
    let t := run (.revoke 0 0) (load 0 0 [at5 12] shop)
    (((t.lease 12).state, (t.lease 12).endReason, (t.lease 12).notices, (t.lease 12).noticeCount), (t.channel 8).state, t.expiryB,
      result 0 0 3 t) = ((.lapsed, some .revoked, 3, 2), .idle, [], (some .ok, [2, 0x0100, 0])) := by decide +kernel

theorem test_revoke_by_a_user :
    answers (.revoke 1 0) 1 0 [at5 12] 1 shop = (some .notPermitted, [0]) := by decide +kernel

/-- R104. -/
theorem test_offer_joins_the_list :
    let t := run (.offer 2 0) (load 2 0 [at5 12, 1] shop)
    (t.offerList 1, (t.lease 12).offerTarget, result 2 0 2 t) = ([3, 12], some 1, (some .ok, [2, 0])) := by decide +kernel

theorem test_withdraw_reports_the_target :
    answers (.withdraw 2 0) 2 0 [at5 3] 1 shop = (some .ok, [0x8001]) := by decide +kernel

/-- Section 6.6, the example: the accepted lease moves with its channels, and counts follow. -/
theorem test_accept_moves_the_lease :
    let t := run (.accept 1 0) (load 1 0 [at5 3] shop)
    (((t.lease 3).holder, (t.lease 3).notices, (t.lease 3).noticeCount), (t.offerList 1, (t.master 1).count, (t.master 2).count),
      result 1 0 4 t) = ((some 1, 0b010000, 1), ([], 3, 1), (some .ok, [at5 3, 1, 0x0060, 0])) := by decide +kernel

theorem test_decline_raises_its_notice :
    let t := run (.decline 1 0) (load 1 0 [at5 3] shop)
    ((t.lease 3).holder, (t.lease 3).notices, (t.lease 3).offerTarget, t.offerList 1) = (some 2, 0b100000, none, []) := by decide +kernel

theorem test_list_offers :
    answers (.listOffers 1 0) 1 0 [] 10 shop = (some .ok, [1, at5 3, 0, 0, 0, 0x0060, 0, 0, 0, 0x0012]) := by decide +kernel

/-- R176: state 2, base B, PARK, urgency 3, no end reason; holder 2. -/
theorem test_query_lease_standing :
    answers (.queryLease 0 0) 0 0 [at5 12, 0] 4 shop = (some .ok, [at5 12, 0x0332, 0x8002, 0x0100]) := by decide +kernel

theorem test_query_lease_timing :
    answers (.queryLease 0 0) 0 0 [at5 12, 1] 12 shop
      = (some .ok, [at5 12, 0x0012, 1000, 0, 0, 0, 900, 0, 0, 0, 700, 0]) := by decide +kernel

theorem test_find_channel :
    answers (.findChannel 0 0) 0 0 [6] 4 shop = (some .ok, [1, 0x8000 ||| at5 3, 0x8002, 1]) := by decide +kernel

/-- R176: one claim, reason 1 (a channel not IDLE), master 1, window 1, urgency 1, line 4, deadline 5500. -/
theorem test_query_claims :
    answers (.queryClaims 0 0) 0 0 [0] 12 shop
      = (some .ok, [0x8101, 1, 0x0011, 0x0240, 500, 0x1000, 0, 0x8004, 5500, 0, 1, 1]) := by decide +kernel

/-- Section 1.9, the example. -/
theorem test_reset_table :
    let t := run (.resetTable 0 1) shop
    ((t.lease 20).state, (t.lease 20).generation, (t.channel 7).state, t.claims) = (.free, 5, .idle, [])
    ∧ (result 1 1 1 t, (t.window 1 1).completionPending) = ((some .aborted, [0]), true)
    ∧ ((t.master 1).count, result 0 1 1 t) = (0, (some .ok, [0])) := by decide +kernel

/-- Section 7.4, base A 1,010: SET_MODE PERIODIC, period 100, width 30. -/
theorem test_set_mode_periodic :
    answers (.setMode 2 0) 2 0 [at5 3, 5, 2, 100, 30] 6 shop = (some .ok, [0x0012, 100, 30, 0, 0, 0]) := by decide +kernel

theorem test_set_mode_path :
    answers (.setMode 1 0) 1 0 [at5 20, 0, 1] 1 shop = (some .modePath, [2]) := by decide +kernel

theorem test_set_level :
    let t := run (.setLevel 2 0) (load 2 0 [at5 3, 5, 1] shop)
    ((t.channel 5).wave.level, (t.channel 5).wave.flipFlop, t.outPin 5) = (true, true, .high) := by decide +kernel

/-- Section 8.5, base A 30,200: the rise stamp is already reached when armed. -/
theorem test_arm_single_matches_at_once :
    let t := run (.armSingle 1 0) (load 1 0 [at5 20, 1, 1, 4000, 0, 1, 8000, 0] shop)
    ((t.channel 1).wave.flipFlop, (t.channel 1).wave.rise, (t.channel 1).wave.fall, (t.lease 20).noticeCount)
      = (true, none, some 8000, 0) := by decide +kernel

theorem test_arm_single_done :
    let t := run (.armSingle 1 0) (load 1 0 [at5 20, 1, 1, 4000, 0, 0, 0, 0] shop)
    ((t.channel 1).wave.flipFlop, (t.lease 20).notices, (t.lease 20).noticeCount) = (true, 0b001000, 1) := by decide +kernel

/-- Section 8.6, base A 50,400 and 51,600. -/
theorem test_stage_periodic :
    answers (.stagePeriodic 1 0) 1 0 [at5 20, 0, 800, 400] 6 shop = (some .ok, [0x0112, 10, 4, 800, 400, 0]) := by decide +kernel

theorem test_restart_periodic_takes_the_pair :
    let v : Waveform := { (periodic .active none).wave with staged := some (800, 100), position := 6, flipFlop := false }
    let t := run (.restartPeriodic 1 0) (load 1 0 [at5 20, 0] (waving 0 v shop))
    (((t.channel 0).wave.period, (t.channel 0).wave.width, (t.channel 0).wave.position, (t.channel 0).wave.flipFlop),
      (t.lease 20).notices, (t.lease 20).noticeCount) = ((800, 100, 0, true), 0b000100, 1) := by decide +kernel

/-- Section 8.5, base A 30,300: FORCE 0 disarms and raises no notice. -/
theorem test_force_in_single :
    let t := run (.force 1 0) (load 1 0 [at5 20, 1, 1] shop)
    ((t.channel 1).wave.flipFlop, (t.channel 1).wave.rise, (t.lease 20).noticeCount) = (true, none, 0) := by decide +kernel

/-- R157: lease 12 at urgency 3 stands before window 0 at urgency 1. -/
theorem test_next_notice :
    answers (.nextNotice 2 0) 2 0 [] 9 shop = (some .ok, [1, 3, 3, 0, 0, 0, at5 12, 2, 1]) := by decide +kernel

theorem test_presented_before_the_window : shop.presented 2 = some (.lease 12, 3) := by decide +kernel

/-- Section 9.5: an acknowledgement with a count that has passed. -/
theorem test_ack_notices :
    answers (.ackNotices 1 0) 1 0 [at5 9, 1, 2] 2 shop = (some .ok, [2, 2]) := by decide +kernel

theorem test_ack_notices_stale :
    answers (.ackNotices 1 0) 1 0 [at5 9, 1, 1] 2 shop = (some .staleNotice, [3, 2]) := by decide +kernel

theorem test_ack_device :
    let s := { shop with deviceNotice := .baseBStalled }
    ((run (.ackDevice 0 0) s).deviceNotice, result 0 0 1 (run (.ackDevice 0 0) s)) = (.none, (some .ok, [1])) := by decide +kernel

theorem test_read_time :
    answers (.readTime 0 0) 0 0 [] 11 shop = (some .ok, [5000, 0, 700, 0, 0x0301, 1, 1, 50, 0, 2, 1]) := by decide +kernel

/-- R28: the old divisor stands until the next advance. -/
theorem test_set_prescaler :
    let t := run (.setPrescaler 0 0) (load 0 0 [4096, 0] shop)
    (t.baseA.divisor, t.baseA.divisorInUse, t.baseA.honourFreeze) = (4096, 1, false) := by decide +kernel

theorem test_set_prescaler_zero : answers (.setPrescaler 0 0) 0 0 [0, 0] 1 shop = (some .badArgument, [0]) := by decide +kernel

theorem test_set_base_b :
    let t := run (.setBaseB 0 0) (load 0 0 [256, 500, 1] shop)
    (t.baseB.divisor, t.baseB.divisorInUse, t.baseB.stallLimit) = (256, 1, 500) := by decide +kernel

theorem test_start_base_b :
    let t := run (.startBaseB 0 0) State.reset
    (t.baseB.state, result 0 0 1 t) = (.running, (some .ok, [0])) := by decide +kernel

theorem test_stop_base_b_in_use : answers (.stopBaseB 0 0) 0 0 [] 2 shop = (some .wrongState, [1, 0]) := by decide +kernel

theorem test_config_line_bound : answers (.configLine 0 0) 0 0 [2, 1] 1 shop = (some .lineBusy, [at5 3]) := by decide +kernel

theorem test_config_line_claimed : answers (.configLine 0 0) 0 0 [4, 1] 1 shop = (some .lineBusy, [1]) := by decide +kernel

theorem test_query_line :
    answers (.queryLine 0 0) 0 0 [2] 8 shop = (some .ok, [1, 1, at5 3, 2, 0, 0, 0, 0]) := by decide +kernel

theorem test_config_channel :
    let t := run (.configChannel 0 0) (load 0 0 [15, 1, 1, 0, 1, 0xFF06] shop)
    ((t.channel 15).config, result 0 0 5 t)
      = ({ polarity := .inverted, safeLevel := .high, drive := .pushPull, releaseStyle := .atBoundary, permitted := 0x06 },
        (some .ok, [0, 2, 0, 0, 1])) := by decide +kernel

theorem test_config_master_supervisor :
    answers (.configMasterSupervisor 0 0) 0 0 [0, 7, 1, 64, 5, 1] 6 shop = (some .ok, [1, 1, 64, 0, 5, 1]) := by decide +kernel

theorem test_config_master_self :
    answers (.configMasterSelf 1 0) 1 0 [1, 6, 1] 6 shop = (some .ok, [1, 1, 8, 2, 6, 1]) := by decide +kernel

/-- R170: two records freed, no claim, no offer to master 2; the claim for channel 6 gets record 0 at the scan. -/
theorem test_disable_master :
    let t := run (.disableMaster 0 0) (load 0 0 [2] shop)
    (result 0 0 3 t, (t.master 2).enabled, (t.lease 3).state, (t.window 2 1), t.claims, (t.window 1 1).code)
      = ((some .ok, [2, 0, 0]), false, .free, Window.rest, [], some .ok) := by decide +kernel

theorem test_unknown_command :
    answers (.unknownCommand 1 0 0x1C) 1 0 [] 1 shop = (some .unknownCommand, [0]) := by decide +kernel

/-- Section 10.8, the example: a mistaken RENEW to a BUSY window. -/
theorem test_command_collision :
    let t := run (.commandCollision 1 1 0x11) shop
    ((t.window 1 1).state, (t.window 1 1).collision, (t.window 1 1).command) = (.busy, true, 0x10) := by decide +kernel

theorem test_abort_a_waiting_claim :
    let t := run (.abort 1 1) shop
    (t.claims, result 1 1 1 t, (t.window 1 1).completionPending) = ([], (some .aborted, [0]), true) := by decide +kernel

/-- Section 5.8, the first example: an ABORT of a drain wait reports the drain set. -/
theorem test_abort_a_drain_wait :
    let t := run (.abort 2 1) shop
    (result 2 1 1 t, (t.channel 7).state) = ((some .aborted, [0x80]), .draining) := by decide +kernel

theorem test_result_taken :
    let t := run (.resultTaken 2 0) shop
    ((t.window 2 0).state, (t.window 2 0).code, (t.window 2 0).completionPending, (t.window 2 0).command)
      = (.idle, none, false, 0x16) := by decide +kernel

theorem test_window_reset_takes_the_claim_out :
    ((run (.windowReset 1 1) shop).window 1 1, (run (.windowReset 1 1) shop).claims) = (Window.rest, []) := by decide +kernel

theorem test_argument_word_write :
    ((run (.argumentWordWrite 0 1 7 0xABCD) shop).window 0 1).args[7] = 0xABCD := by decide +kernel

theorem test_discarded_write : run (.discardedWrite 1 0x2A 5) shop = shop := by decide +kernel

theorem test_reset_n :
    let t := run (.resetN true) shop
    (t.leases, t.claims, t.resetAsserted, t.outPin 0) = (State.reset.leases, [], true, .released) := by decide +kernel

theorem test_freeze : (run (.freeze true) shop).frozenA = true := by decide +kernel

theorem test_tref_edge_is_counted : (run .trefEdge shop).baseB.edgeCount = 1 := by decide +kernel

theorem test_b_tick :
    let t := run .bTick { shop with baseB := { shop.baseB with edgeCount := 1 } }
    (t.baseB.counter, t.baseB.edgeCount) = (701, 0) := by decide +kernel

theorem test_a_tick_moves_positions :
    let t := run .aTick { shop with baseA := { shop.baseA with count := 1 } }
    (t.baseA.counter, t.baseA.count, (t.channel 0).wave.position, t.baseB.stallWatch) = (5001, 0, 1, 1) := by decide +kernel

/-- Section 2.7, base A 6,000. -/
theorem test_expiry_event_enters_grace :
    let t := run (.expiryEvent .a) (atA 6000 { shop with claims := [] })
    ((t.lease 3).state, (t.lease 3).expiry, (t.lease 3).notices, (t.lease 3).noticeCount, (t.channel 5).state, t.expiryA)
      = (.grace, 6200, 1, 1, .parked, [3, 20]) := by decide +kernel

/-- Section 2.7, base A 7,350: the lapse keeps the stamp. -/
theorem test_expiry_event_lapses :
    let t := run (.expiryEvent .b) (atB 900 shop)
    ((t.lease 12).state, (t.lease 12).endReason, (t.lease 12).expiry, (t.lease 12).notices, (t.channel 8).state, (t.master 2).count)
      = (.lapsed, some .expired, 900, 3, .idle, 2) := by decide +kernel

/-- Section 2.8, the example. -/
theorem test_stall_event :
    let t := run .stallEvent { shop with baseB := { shop.baseB with stallWatch := 50 } }
    (t.baseB.state, t.baseB.counter, (t.lease 12).endReason, (t.lease 12).notices, t.deviceNotice, t.expiryB)
      = (.stalled, 700, some .baseStalled, 3, .baseBStalled, []) := by decide +kernel

theorem test_wait_deadline :
    let t := run .waitDeadline (atA 5500 shop)
    (t.claims, result 1 1 1 t) = ([], (some .timedOut, [0])) := by decide +kernel

/-- Section 8.5, base A 30,150: the match that leaves no comparator armed. -/
theorem test_comparator_match :
    let t := run (.comparatorMatch 1) (atA 7000 { shop with claims := [] })
    ((t.channel 1).wave.flipFlop, (t.channel 1).wave.rise, (t.lease 20).notices) = (true, none, 0b001000) := by decide +kernel

theorem test_width_edge :
    ((run (.widthEdge 0) (waving 0 { (periodic .active none).wave with position := 4 } shop)).channel 0).wave.flipFlop = false := by
  decide +kernel

/-- Section 8.6, base A 51,000. -/
theorem test_boundary_takes_the_pair :
    let v : Waveform := { (periodic .active none).wave with staged := some (800, 400), position := 10, flipFlop := false }
    let t := run (.boundary 0) (waving 0 v shop)
    (((t.channel 0).wave.period, (t.channel 0).wave.position, (t.channel 0).wave.flipFlop), (t.lease 20).noticeCount)
      = ((800, 0, true), 1) := by decide +kernel

/-- Section 5.8, the first example, base A 10,400. -/
theorem test_drain_end :
    let t := run (.drainEnd 7) (waving 7 { (periodic .draining none).wave with position := 10 } shop)
    ((t.channel 7).state, result 2 1 2 t, (t.window 2 1).completionPending) = (.idle, (some .ok, [0x84, 0x80]), true) := by decide +kernel

/-- Section 4.5, the first example: the term is counted from the base's present value, the last renewal from the edge. -/
theorem test_edge_taken_renews :
    let s := shop.setLine 2 { shop.line 2 with captured := [{ stampA := 4990, stampB := 690 }] }
    let t := run (.renewLineEdge 2 true .isTaken) s
    ((t.lease 3).expiry, (t.lease 3).lastRenewal, (t.lease 3).renewals, (t.line 2).lastEdge) = (6000, 4990, 1, 4990) := by decide +kernel

theorem test_edge_not_detected :
    (run (.renewLineEdge 2 false .arrivesAndIsTaken) shop).lease 3 = shop.lease 3 := by decide +kernel

theorem test_clock_period : (run .systemClockPeriod shop).baseA.count = 1 := by decide +kernel

/-- Section 2.1, the example: lease 4 at distance 240, lease 9 at 320; at 00000010h lease 4's stamp is reached, lease 9's is not. -/
theorem test_order_across_the_wrap :
    (distance 0xFFFFFFF0 0xFFFFFF00, distance 0x40 0xFFFFFF00, reached 0xFFFFFFF0 0x10, reached 0x40 0x10)
      = (240, 320, true, false) := by decide +kernel

/-- The front of the queue is taken, and the rest waits. -/
theorem test_step_takes_the_front :
    (step { shop with pending := [.trefEdge, .aTick] }) = .next (run .trefEdge { shop with pending := [.aTick] }) := rfl

/-! ## Witnesses: for each statement with hypotheses, a state and operands that meet them, clause by clause -/

/-- The hypotheses of a statement about a command of window 0 of master `m`, on `shop` with these argument words. -/
abbrev Taken (m : Fin 8) (l : List Word) (s : State) : Prop := (load m 0 l s).canTake m 0

/-- The same, with the first argument word naming live lease `n` of master `m`. -/
abbrev Held (m : Fin 8) (l : List Word) (n : Fin 64) (s : State) : Prop :=
  (load m 0 l s).canTake m 0 ∧ (load m 0 l s).holdsLive m ((load m 0 l s).args m 0)[0] n

theorem witness_StepTakesTheFrontRow :
    ({ shop with pending := [.aTick, .bTick] } : State).pending = [.aTick, .bTick] ∧ shop.pending = [] := by decide

theorem witness_ResetLineHoldsThePart :
    (run (.resetN true) shop).resetAsserted = true
    ∧ (∀ r, (Instr.trefEdge) ≠ .resetN r) ∧ (∀ f, (Instr.trefEdge) ≠ .freeze f) ∧ (∀ k r p, (Instr.trefEdge) ≠ .renewLineEdge k r p) :=
  ⟨by decide +kernel, by simp, by simp, by simp⟩

theorem witness_ClosedTickLeavesNothingOpen :
    shop.divisorsKept ∧ ({ atA 5499 shop with baseA := { (atA 5499 shop).baseA with count := 1 } } : State).divisorsKept := by
  decide +kernel

/-- A BUSY window, and one word for each of the four results of the port. -/
theorem witness_PortChecksInOrder :
    shop.settled
    ∧ (commandWrite (.commandCollision 1 1 0xFFFF) = some (1, 1, 0xFFFF) ∧ (shop.window 1 1).state = .busy)
    ∧ (commandWrite (.unknownCommand 1 0 0x0110) = some (1, 0, 0x0110) ∧ (shop.window 1 0).state ≠ .busy
        ∧ portVerdict 0x0110 (shop.args 1 0) (shop.master 1).enabled 1 = some .unknownCommand)
    ∧ (commandWrite (.setPrescaler 3 0) = some (3, 0, 0x51) ∧ (shop.window 3 0).state ≠ .busy
        ∧ portVerdict 0x51 (shop.args 3 0) (shop.master 3).enabled 3 = some .masterDisabled)
    ∧ portVerdict 0x51 (shop.args 1 0) (shop.master 1).enabled 1 = some .notPermitted
    ∧ portVerdict 0x51 (shop.args 0 0) (shop.master 0).enabled 0 = some .badArgument := by decide +kernel

/-- The three handle checks: a FREE record, another master's lease, a lapsed lease. -/
theorem witness_HandleChecksInOrder :
    shop.settled ∧ (shop.window 1 0).state ≠ .busy
    ∧ (let s := load 1 0 [at5 63] shop
       portVerdict 0x11 (s.args 1 0) (s.master 1).enabled 1 = none ∧ handleChecks 0x11 (s.args 1 0) = some (true, true)
        ∧ s.handleVerdict 1 (s.args 1 0)[0] (true, true) = some .staleHandle)
    ∧ (let s := load 1 0 [at5 12, 63, 1] shop
       portVerdict 0x41 (s.args 1 0) (s.master 1).enabled 1 = none ∧ handleChecks 0x41 (s.args 1 0) = some (true, false)
        ∧ s.handleVerdict 1 (s.args 1 0)[0] (true, false) = some .notHolder)
    ∧ (let s := load 0 0 [at5 9] shop
       portVerdict 0x3D (s.args 0 0) (s.master 0).enabled 0 = none ∧ handleChecks 0x3D (s.args 0 0) = some (false, true)
        ∧ s.handleVerdict 0 (s.args 0 0)[0] (false, true) = some .leaseLapsed) := by decide +kernel

theorem witness_WindowControls :
    shop.settled
    ∧ ((shop.window 1 1).state = .busy ∧ ∃ q ∈ shop.claims, q.master = 1 ∧ q.window = 1)
    ∧ ((shop.window 2 1).state = .busy ∧ (∀ q ∈ shop.claims, ¬ (q.master = 2 ∧ q.window = 1)) ∧ (shop.window 2 1).drainSet ≠ 0)
    ∧ (shop.window 2 0).state = .done ∧ (shop.window 0 0).state = .idle := by decide +kernel

theorem witness_ArgumentAndDiscardedWrites :
    shop.settled ∧ (shop.window 1 1).state = .busy ∧ (shop.window 0 0).state ≠ .busy
    ∧ wellFormed (.discardedWrite 1 9 3) = true ∧ wellFormed (.discardedWrite 1 10 0) = true
    ∧ wellFormed (.discardedWrite 1 63 0xFFFF) = true := by decide +kernel

theorem witness_BusReadsShowTheWindow : shop.resetAsserted = false := by decide

/-- One claim for each of the six checks: no channels; channel 15; base B stopped; own channel 0; line 2; quota. -/
theorem witness_ClaimChecksInOrder :
    (let s := load 1 0 [0, 64] shop
     s.canTake 1 0 ∧ badAtPort 0x10 (s.args 1 0) = false ∧ claimMalformed (s.args 1 0))
    ∧ (let s := load 1 0 [0x8001, 64] shop
       s.canTake 1 0 ∧ badAtPort 0x10 (s.args 1 0) = false ∧ ¬ claimMalformed (s.args 1 0)
        ∧ isLowest (s.args 1 0)[0] (s.forbids 1) 15)
    ∧ (let s := load 1 0 [1, 64, 0, 0, 1] { shop with baseB := { shop.baseB with state := .stopped } }
       s.canTake 1 0 ∧ badAtPort 0x10 (s.args 1 0) = false ∧ ¬ claimMalformed (s.args 1 0)
        ∧ (∀ c : Fin 16, (s.args 1 0)[0].getLsbD c.val = true → ¬ s.forbids 1 c) ∧ s.claimBaseStopped (s.args 1 0)) := by
  decide +kernel

theorem witness_ClaimChecksInOrder_own_conflict :
    let s := load 1 0 [3, 64] shop
    s.canTake 1 0 ∧ badAtPort 0x10 (s.args 1 0) = false ∧ ¬ claimMalformed (s.args 1 0)
      ∧ (∀ c : Fin 16, (s.args 1 0)[0].getLsbD c.val = true → ¬ s.forbids 1 c) ∧ ¬ s.claimBaseStopped (s.args 1 0)
      ∧ isLowest (s.args 1 0)[0] (fun d => ∃ k : Fin 64, s.governedBy 1 d k) 0 ∧ s.governedBy 1 0 20 := by
  intro s; and_intros <;> decide +kernel

theorem witness_ClaimChecksInOrder_line_busy :
    let s := load 1 0 [4, 64, 0, 0, 0, 0x8002] shop
    s.canTake 1 0 ∧ badAtPort 0x10 (s.args 1 0) = false ∧ ¬ claimMalformed (s.args 1 0)
      ∧ (∀ c : Fin 16, (s.args 1 0)[0].getLsbD c.val = true → ¬ s.forbids 1 c) ∧ ¬ s.claimBaseStopped (s.args 1 0)
      ∧ (∀ c : Fin 16, (s.args 1 0)[0].getLsbD c.val = true → ∀ n : Fin 64, ¬ s.governedBy 1 c n)
      ∧ claimLine (s.args 1 0) = some 2 ∧ s.lineTaken 2 := by decide +kernel

theorem witness_ClaimChecksInOrder_quota :
    let s := load 1 0 [4, 64, 0, 0, 0, 0x8007] (shop.setMaster 1 { shop.master 1 with quota := 2 })
    s.canTake 1 0 ∧ badAtPort 0x10 (s.args 1 0) = false ∧ ¬ claimMalformed (s.args 1 0)
      ∧ (∀ c : Fin 16, (s.args 1 0)[0].getLsbD c.val = true → ¬ s.forbids 1 c) ∧ ¬ s.claimBaseStopped (s.args 1 0)
      ∧ (∀ c : Fin 16, (s.args 1 0)[0].getLsbD c.val = true → ∀ n : Fin 64, ¬ s.governedBy 1 c n)
      ∧ (∀ k : Fin 8, claimLine (s.args 1 0) = some k → ¬ s.lineTaken k) ∧ (s.master 1).quota ≤ (s.master 1).count := by
  decide +kernel

theorem witness_GrantableClaimIsGrantedAtOnce :
    let s := load 1 0 [0x4404, 0xFFFF, 0x00FF, 0xFFFF, 0x0175, 0x8007, 0, 0] shop
    s.canTake 1 0 ∧ s.claimPasses 1 (s.args 1 0) ∧ s.claimChannelsFree (s.args 1 0) ∧ s.isLowestFree 0 := by decide +kernel

/-- A claim that waits for a channel that is not IDLE, and one that waits for a reserved channel. -/
theorem witness_WaitingClaimJoinsTheQueue :
    (let s := load 1 0 [0x0080, 1, 0, 0, 0, 0, 0xFFFF, 0xFF] shop
     s.canTake 1 0 ∧ s.claimPasses 1 (s.args 1 0) ∧ s.claimMustWait (s.args 1 0) ∧ claimWaitLimit (s.args 1 0) ≠ 0
      ∧ s.claims.length < 12)
    ∧ (let s := load 1 0 [0x0200, 1, 0, 0, 0, 0, 1, 0] shop
       s.canTake 1 0 ∧ s.claimPasses 1 (s.args 1 0) ∧ s.claimMustWait (s.args 1 0) ∧ claimWaitLimit (s.args 1 0) ≠ 0) := by
  and_intros <;> decide +kernel

/-- No record is FREE. -/
def full : State := { shop with leases := tabulate fun n => if (shop.lease n).state = .free then record 0 0 .lapsed .a 0 else shop.lease n }

/-- Twelve claims wait. -/
def crowded : State := { shop with claims := List.replicate 12 { claimOf 2 0 (Vector.replicate 8 0) with channels := 0x0200 } }

theorem witness_ClaimThatCannotWaitIsRefused :
    (let s := load 1 0 [0x00C4, 1] shop
     s.canTake 1 0 ∧ s.claimPasses 1 (s.args 1 0) ∧ claimWaitLimit (s.args 1 0) = 0
      ∧ isLowest (s.args 1 0)[0] (fun d => (s.channel d).state ≠ .idle) 6)
    ∧ (let s := load 1 0 [0x0204, 1] shop
       s.canTake 1 0 ∧ s.claimPasses 1 (s.args 1 0) ∧ claimWaitLimit (s.args 1 0) = 0
        ∧ (∀ c : Fin 16, (s.args 1 0)[0].getLsbD c.val = true → (s.channel c).state = .idle)
        ∧ isLowest (s.args 1 0)[0] s.reservedChannel 9)
    ∧ (let s := load 1 0 [0x0004, 1] full
       s.canTake 1 0 ∧ s.claimPasses 1 (s.args 1 0) ∧ claimWaitLimit (s.args 1 0) = 0
        ∧ (∀ c : Fin 16, (s.args 1 0)[0].getLsbD c.val = true → (s.channel c).state = .idle)
        ∧ (∀ c : Fin 16, (s.args 1 0)[0].getLsbD c.val = true → ¬ s.reservedChannel c)
        ∧ ∀ n : Fin 64, (s.lease n).state ≠ .free)
    ∧ (let s := load 1 0 [0x0200, 1, 0, 0, 0, 0, 1] crowded
       s.canTake 1 0 ∧ s.claimPasses 1 (s.args 1 0) ∧ claimWaitLimit (s.args 1 0) ≠ 0 ∧ s.claimMustWait (s.args 1 0)
        ∧ 12 ≤ s.claims.length) := by
  and_intros <;> decide +kernel

/-- A lease that is HELD, and one in grace. -/
theorem witness_RenewSetsTheStampOneTermAhead : Held 2 [at5 3] 3 shop ∧ Held 2 [at5 12] 12 shop := by decide +kernel

/-- Line 2 with one captured edge, and line 4, which is unbound, with two. -/
def edged : State :=
  (shop.setLine 2 { shop.line 2 with captured := [{ stampA := 4990, stampB := 690 }] }).setLine 4
    { shop.line 4 with captured := [{ stampA := 1, stampB := 2 }, { stampA := 3, stampB := 4 }] }

theorem witness_DetectedEdgeRenewsTheBoundLease :
    edged.settled ∧ (edged.line 2).edge.detects true = true ∧ (edged.line 2).edge.detects false = false
    ∧ (∃ t, exec (.renewLineEdge 2 true .arrives) edged = .next t) ∧ (edged.line 0).captured = []
    ∧ ((edged.line 4).captured = [{ stampA := 1, stampB := 2 }, { stampA := 3, stampB := 4 }] ∧ (edged.line 4).bound = none)
    ∧ ((edged.line 2).captured = [{ stampA := 4990, stampB := 690 }] ∧ (edged.line 2).bound = some 3
        ∧ (edged.lease 3).live = true) :=
  ⟨by decide +kernel, by decide +kernel, by decide +kernel, exec_answers_next _ _, by decide +kernel, by decide +kernel,
    by decide +kernel⟩

/-- A term staged and a term withdrawn; every option selected. -/
theorem witness_SetTermAndSetOptions :
    Held 2 [at5 3, 0xFFFF, 0xFF] 3 shop ∧ Held 2 [at5 3, 0, 0xFF00] 3 shop
    ∧ (let s := load 2 0 [at5 3, 0xFFFF, 0, 1, 7, 1] shop
       s.canTake 2 0 ∧ s.holdsLive 2 (s.args 2 0)[0] 3 ∧ badAtPort 0x13 (s.args 2 0) = false) := by decide +kernel

/-- Channels added; a channel dropped that drains, and one that goes IDLE. -/
theorem witness_AddAndDropChannels :
    (let s := load 2 0 [at5 3, 0x4404] shop
     s.canTake 2 0 ∧ s.holdsLive 2 (s.args 2 0)[0] 3 ∧ (s.args 2 0)[1] ≠ 0
      ∧ ∀ c : Fin 16, (s.args 2 0)[1].getLsbD c.val = true → ¬ s.forbids 2 c ∧ (s.channel c).state = .idle ∧ ¬ s.reservedChannel c)
    ∧ (let s := load 1 0 [at5 20, 1] shop
       s.canTake 1 0 ∧ s.holdsLive 1 (s.args 1 0)[0] 20 ∧ (s.args 1 0)[1] ≠ 0
        ∧ (s.args 1 0)[1] &&& (s.lease 20).channels = (s.args 1 0)[1] ∧ (s.lease 20).channels &&& ~~~(s.args 1 0)[1] ≠ 0
        ∧ (∀ c : Fin 16, (s.args 1 0)[1].getLsbD c.val = true → (s.channel c).state = .active ∨ (s.channel c).state = .parked)
        ∧ ¬ ∃ c : Fin 16, (s.args 1 0)[1].getLsbD c.val = true ∧ ¬ (s.channel c).wouldDrain)
    ∧ (let s := load 1 0 [at5 20, 2] shop
       (∀ c : Fin 16, (s.args 1 0)[1].getLsbD c.val = true → (s.channel c).state = .active ∨ (s.channel c).state = .parked)
        ∧ ∃ c : Fin 16, (s.args 1 0)[1].getLsbD c.val = true ∧ ¬ (s.channel c).wouldDrain) := by decide +kernel

/-- NO_WAIT with a drain, WAIT without one, WAIT with one. -/
theorem witness_ReleaseFreesTheLease :
    (let s := load 1 0 [at5 20, 0] shop
     s.canTake 1 0 ∧ s.holdsLive 1 (s.args 1 0)[0] 20 ∧ (s.args 1 0)[1] = 0
      ∧ isSetOf 1 (fun c => (s.lease 20).channels.getLsbD c.val = true ∧ (s.channel c).wouldDrain))
    ∧ (let s := load 2 0 [at5 12, 1] shop
       s.canTake 2 0 ∧ s.holdsLive 2 (s.args 2 0)[0] 12 ∧ (s.args 2 0)[1] = 1
        ∧ isSetOf 0 (fun c => (s.lease 12).channels.getLsbD c.val = true ∧ (s.channel c).wouldDrain))
    ∧ (let s := load 1 0 [at5 20, 1] shop
       s.canTake 1 0 ∧ s.holdsLive 1 (s.args 1 0)[0] 20 ∧ (s.args 1 0)[1] = 1 ∧ (1 : ChannelSet) ≠ 0
        ∧ isSetOf 1 (fun c => (s.lease 20).channels.getLsbD c.val = true ∧ (s.channel c).wouldDrain)) := by decide +kernel

theorem witness_RetirePurgeAndRevoke :
    (let s := load 1 0 [at5 9] shop
     s.canTake 1 0 ∧ s.names (s.args 1 0)[0] 9 ∧ (s.lease 9).holder = some 1 ∧ (s.lease 9).state = .lapsed)
    ∧ (let s := load 0 0 [at5 9] shop
       s.canTake 0 0 ∧ s.names (s.args 0 0)[0] 9 ∧ (s.lease 9).holder = some 1 ∧ (s.lease 9).state = .lapsed)
    ∧ (let s := load 1 0 [at5 20] shop
       s.canTake 1 0 ∧ s.names (s.args 1 0)[0] 20 ∧ (s.lease 20).holder = some 1 ∧ (s.lease 20).state = .held)
    ∧ (let s := load 0 0 [at5 20] shop
       s.canTake 0 0 ∧ s.names (s.args 0 0)[0] 20 ∧ (s.lease 20).holder = some 1 ∧ (s.lease 20).state = .held
        ∧ (∀ c : Fin 16, (s.lease 20).channels.getLsbD c.val = true → (s.channel c).state = .active ∨ (s.channel c).state = .parked)
        ∧ isSetOf 1 (fun c => (s.lease 20).channels.getLsbD c.val = true ∧ (s.channel c).wouldDrain)) := by decide +kernel

/-- A lease offered anew to the same master (its list full of it), and one not offered before. -/
theorem witness_OfferAndWithdraw :
    (let s := load 2 0 [at5 3, 1] (shop.setOfferList 1 [3, 12, 20, 9])
     s.canTake 2 0 ∧ s.holdsLive 2 (s.args 2 0)[0] 3 ∧ (s.args 2 0)[1] = natWord (1 : Fin 8).val ∧ (1 : Fin 8) ≠ 2
      ∧ (s.master 1).enabled = true ∧ (∀ c : Fin 16, (s.lease 3).channels.getLsbD c.val = true → ¬ s.forbids 1 c)
      ∧ ((s.offerList 1).length < 4 ∨ (3 : Fin 64) ∈ s.offerList 1))
    ∧ (let s := load 2 0 [at5 12, 0] shop
       s.canTake 2 0 ∧ s.holdsLive 2 (s.args 2 0)[0] 12 ∧ (s.args 2 0)[1] = natWord (0 : Fin 8).val ∧ (0 : Fin 8) ≠ 2
        ∧ (s.master 0).enabled = true ∧ (∀ c : Fin 16, (s.lease 12).channels.getLsbD c.val = true → ¬ s.forbids 0 c)
        ∧ (s.offerList 0).length < 4) := by decide +kernel

theorem witness_AcceptAndDecline :
    let s := load 1 0 [at5 3] shop
    s.canTake 1 0 ∧ s.names (s.args 1 0)[0] 3 ∧ (s.lease 3).offerTarget = some 1 ∧ (s.lease 3).holder = some 2 ∧ (2 : Fin 8) ≠ 1
      ∧ (∀ c : Fin 16, (s.lease 3).channels.getLsbD c.val = true → ¬ s.forbids 1 c) ∧ (s.master 1).count < (s.master 1).quota
      ∧ 0 < (s.master 2).count := by decide +kernel

/-- ADD_CHANNELS and DROP_CHANNELS: no channels; channel 15; own channel 8; channel 0; reserved channel 9. -/
theorem witness_ChannelAndOfferRefusalsInOrder_add :
    (Held 2 [at5 3, 0] 3 shop)
    ∧ (let s := load 2 0 [at5 3, 0x8000] shop
       Held 2 [at5 3, 0x8000] 3 shop ∧ (s.args 2 0)[1] ≠ 0 ∧ isLowest (s.args 2 0)[1] (s.forbids 2) 15)
    ∧ (let s := load 2 0 [at5 3, 0x0101] shop
       Held 2 [at5 3, 0x0101] 3 shop ∧ (∀ c : Fin 16, (s.args 2 0)[1].getLsbD c.val = true → ¬ s.forbids 2 c)
        ∧ isLowest (s.args 2 0)[1] (fun d => ∃ j : Fin 64, s.governedBy 2 d j) 8 ∧ s.governedBy 2 8 12)
    ∧ (let s := load 2 0 [at5 3, 0x0401] shop
       Held 2 [at5 3, 0x0401] 3 shop ∧ (∀ c : Fin 16, (s.args 2 0)[1].getLsbD c.val = true → ¬ s.forbids 2 c)
        ∧ (∀ c : Fin 16, (s.args 2 0)[1].getLsbD c.val = true → ∀ k : Fin 64, ¬ s.governedBy 2 c k)
        ∧ isLowest (s.args 2 0)[1] (fun d => (s.channel d).state ≠ .idle) 0)
    ∧ (let s := load 2 0 [at5 3, 0x0204] shop
       Held 2 [at5 3, 0x0204] 3 shop ∧ (∀ c : Fin 16, (s.args 2 0)[1].getLsbD c.val = true → ¬ s.forbids 2 c)
        ∧ (∀ c : Fin 16, (s.args 2 0)[1].getLsbD c.val = true → ∀ k : Fin 64, ¬ s.governedBy 2 c k)
        ∧ (∀ c : Fin 16, (s.args 2 0)[1].getLsbD c.val = true → (s.channel c).state = .idle)
        ∧ isLowest (s.args 2 0)[1] s.reservedChannel 9) := by
  and_intros <;> decide +kernel

/-- DROP_CHANNELS of a channel outside the lease and of all its channels; the four refusals of OFFER. -/
theorem witness_ChannelAndOfferRefusalsInOrder_drop_and_offer :
    (let s := load 2 0 [at5 3, 0x0022] shop
     Held 2 [at5 3, 0x0022] 3 shop ∧ isLowest (s.args 2 0)[1] (fun d => (s.lease 3).channels.getLsbD d.val = false) 1)
    ∧ (Held 2 [at5 3, 0x0060] 3 shop ∧ ((load 2 0 [at5 3, 0x0060] shop).args 2 0)[1] = ((load 2 0 [at5 3, 0x0060] shop).lease 3).channels)
    ∧ (Held 2 [at5 3, 2] 3 shop ∧ ((load 2 0 [at5 3, 2] shop).args 2 0)[1] = natWord (2 : Fin 8).val)
    ∧ (Held 2 [at5 3, 7] 3 shop ∧ ((load 2 0 [at5 3, 7] shop).args 2 0)[1] = natWord (7 : Fin 8).val ∧ (shop.master 7).enabled = false)
    ∧ (let s := shop.setChannel 6 { shop.channel 6 with config := { (shop.channel 6).config with permitted := 0xFD } }
       Held 2 [at5 3, 1] 3 s ∧ (s.master 1).enabled = true ∧ isLowest (s.lease 3).channels (s.forbids 1) 6)
    ∧ (let s := shop.setOfferList 0 [9, 9, 9, 9]
       Held 2 [at5 3, 0] 3 s ∧ (s.master 0).enabled = true
        ∧ (∀ c : Fin 16, (s.lease 3).channels.getLsbD c.val = true → ¬ s.forbids 0 c)
        ∧ 4 ≤ (s.offerList 0).length ∧ (3 : Fin 64) ∉ s.offerList 0) := by
  and_intros <;> decide +kernel

/-- ACCEPT: no offer; a channel that forbids the target; quota. -/
theorem witness_ChannelAndOfferRefusalsInOrder_accept :
    (let s := load 1 0 [at5 12] shop
     s.canTake 1 0 ∧ ¬ (s.names (s.args 1 0)[0] (handleLease (s.args 1 0)[0])
        ∧ (s.lease (handleLease (s.args 1 0)[0])).offerTarget = some 1))
    ∧ (let s := load 1 0 [at5 3] (shop.setChannel 5 { shop.channel 5 with config := { (shop.channel 5).config with permitted := 0 } })
       s.canTake 1 0 ∧ s.names (s.args 1 0)[0] 3 ∧ (s.lease 3).offerTarget = some 1 ∧ isLowest (s.lease 3).channels (s.forbids 1) 5)
    ∧ (let s := load 1 0 [at5 3] (shop.setMaster 1 { shop.master 1 with quota := 0 })
       s.canTake 1 0 ∧ s.names (s.args 1 0)[0] 3 ∧ (s.lease 3).offerTarget = some 1
        ∧ (∀ c : Fin 16, (s.lease 3).channels.getLsbD c.val = true → ¬ s.forbids 1 c) ∧ (s.master 1).quota ≤ (s.master 1).count) := by
  decide +kernel

theorem witness_ResetTableClearsTheTable :
    shop.canTake 0 1 ∧ shop.windowsKept ∧ ∀ q ∈ shop.claims, ¬ (q.master = 0 ∧ q.window = 1) := by decide +kernel

/-- QUERY_LEASE with generation 0 and with a generation, in both views; FIND_CHANNEL of DRAINING channel 7, IDLE channel 15 and ACTIVE
channel 0; QUERY_LINE of an unbound and a bound line. -/
theorem witness_QueriesReportTheTables :
    (let s := load 1 0 [63, 1] shop
     s.canTake 1 0 ∧ handleLease (s.args 1 0)[0] = 63 ∧ handleGeneration (s.args 1 0)[0] = 0 ∧ (s.args 1 0)[1] = 1)
    ∧ (let s := load 1 0 [at5 3, 0] shop
       s.canTake 1 0 ∧ handleLease (s.args 1 0)[0] = 3 ∧ s.names (s.args 1 0)[0] 3 ∧ (s.args 1 0)[1] = 0)
    ∧ (Taken 1 [7] shop ∧ ((load 1 0 [7] shop).args 1 0)[0] = natWord (7 : Fin 16).val ∧ (shop.channel 7).state = .draining)
    ∧ (Taken 1 [15] shop ∧ ((load 1 0 [15] shop).args 1 0)[0] = natWord (15 : Fin 16).val ∧ (shop.channel 15).state = .idle)
    ∧ (Taken 1 [0] shop ∧ ((load 1 0 [0] shop).args 1 0)[0] = natWord (0 : Fin 16).val ∧ (shop.channel 0).state = .active
        ∧ (shop.channel 0).governing = some 20 ∧ (shop.lease 20).holder = some 1)
    ∧ (((load 1 0 [7] shop).args 1 0)[0] = natWord (7 : Fin 8).val ∧ (shop.line 7).bound = none)
    ∧ (Taken 1 [2] shop ∧ ((load 1 0 [2] shop).args 1 0)[0] = natWord (2 : Fin 8).val ∧ (shop.line 2).bound = some 3
        ∧ (shop.lease 3).holder = some 2)
    ∧ (shop.offerList 1 = [3] ∧ [(3 : Fin 64)].length ≤ 4) := by decide +kernel

/-- QUERY_CLAIMS beyond the queue, and at each waiting reason: a channel that is not IDLE, a reserved channel, no FREE record, the quota, none. -/
theorem witness_QueriesReportTheTables_claims :
    let first := claimOf 1 1 (Vector.replicate 8 0x0204)
    let second := claimOf 2 0 (Vector.replicate 8 0x0004)
    (Taken 0 [11] shop ∧ ((load 0 0 [11] shop).args 0 0)[0] = natWord (11 : Fin 12).val ∧ shop.claims.length ≤ 11)
    ∧ (∃ q, shop.claims = [] ++ q :: [] ∧ ∃ c : Fin 16, q.channels.getLsbD c.val = true ∧ (shop.channel c).state ≠ .idle)
    ∧ (Taken 0 [1] { shop with claims := [first] ++ second :: [] }
        ∧ (∀ c : Fin 16, second.channels.getLsbD c.val = true → (shop.channel c).state = .idle)
        ∧ ∃ c : Fin 16, second.channels.getLsbD c.val = true ∧ ∃ r ∈ [first], r.channels.getLsbD c.val = true)
    ∧ (Taken 0 [0] { full with claims := [] ++ second :: [] }
        ∧ (∀ c : Fin 16, second.channels.getLsbD c.val = true → (full.channel c).state = .idle)
        ∧ ∀ n : Fin 64, (full.lease n).state ≠ .free)
    ∧ ((∃ n : Fin 64, (shop.lease n).state = .free) ∧ ¬ (shop.master second.master).quota ≤ (shop.master second.master).count)
    ∧ ((shop.setMaster 2 { shop.master 2 with quota := 2 }).master second.master).quota
        ≤ ((shop.setMaster 2 { shop.master 2 with quota := 2 }).master second.master).count :=
  ⟨by decide +kernel, ⟨_, rfl, by decide +kernel⟩, by and_intros <;> decide +kernel⟩

theorem witness_ReadTimeAndNextNotice : shop.canTake 2 0 := by decide +kernel

/-- A channel outside the lease; channels of the lease in each mode; each mode named. -/
theorem witness_ModeLevelAndForce :
    (let s := load 1 0 [at5 20, 15, 2, 2] shop
     Held 1 [at5 20, 15, 2, 2] 20 shop ∧ (s.args 1 0)[1] = natWord (15 : Fin 16).val ∧ (s.lease 20).channels.getLsbD 15 = false
      ∧ badAtPort 0x20 (s.args 1 0) = false)
    ∧ (let s := load 1 0 [at5 20, 2, 1] shop
       Held 1 [at5 20, 2, 1] 20 shop ∧ (s.args 1 0)[1] = natWord (2 : Fin 16).val ∧ (s.lease 20).channels.getLsbD 2 = false
        ∧ (s.args 1 0)[2].toNat ≤ 1)
    ∧ (let s := load 1 0 [at5 20, 0, 0] shop
       Held 1 [at5 20, 0, 0] 20 shop ∧ (s.args 1 0)[1] = natWord (0 : Fin 16).val ∧ (s.lease 20).channels.getLsbD 0 = true
        ∧ (s.args 1 0)[2] = 0)
    ∧ (let s := load 1 0 [at5 20, 1, 2, 2] shop
       Held 1 [at5 20, 1, 2, 2] 20 shop ∧ (s.args 1 0)[1] = natWord (1 : Fin 16).val ∧ (s.lease 20).channels.getLsbD 1 = true
        ∧ (s.args 1 0)[2] = 2 ∧ 2 ≤ (s.args 1 0)[3].toNat)
    ∧ (let s := load 2 0 [at5 3, 5, 1] shop
       Held 2 [at5 3, 5, 1] 3 shop ∧ (s.args 2 0)[1] = natWord (5 : Fin 16).val ∧ (s.lease 3).channels.getLsbD 5 = true
        ∧ (s.args 2 0)[2] = 1 ∧ (s.args 2 0)[2].toNat ≤ 1) := by
  and_intros <;> decide +kernel

/-- In SINGLE mode, with a stamp 2³¹ − 1 ticks past and one exactly at the present value; and in PERIODIC mode. -/
theorem witness_ArmSingleMatchesReachedStamps :
    (let s := load 1 0 [at5 20, 1, 1, 5001, 0x8000, 1, 5000, 0] shop
     Held 1 [at5 20, 1, 1, 5001, 0x8000, 1, 5000, 0] 20 shop ∧ (s.args 1 0)[1] = natWord (1 : Fin 16).val
      ∧ badAtPort 0x22 (s.args 1 0) = false ∧ (s.lease 20).channels.getLsbD 1 = true ∧ (s.channel 1).governing = some 20
      ∧ (s.channel 1).wave.mode = .single)
    ∧ (let s := load 1 0 [at5 20, 0, 2, 0, 0, 0, 0, 0] shop
       Held 1 [at5 20, 0, 2, 0, 0, 0, 0, 0] 20 shop ∧ (s.args 1 0)[1] = natWord (0 : Fin 16).val
        ∧ badAtPort 0x22 (s.args 1 0) = false ∧ (s.lease 20).channels.getLsbD 0 = true ∧ (s.channel 0).governing = some 20
        ∧ (s.channel 0).wave.mode ≠ .single) := by decide +kernel

theorem witness_StageAndRestartPeriodic :
    (let s := load 1 0 [at5 20, 1, 2, 0] shop
     Held 1 [at5 20, 1, 2, 0] 20 shop ∧ (s.args 1 0)[1] = natWord (1 : Fin 16).val ∧ (s.lease 20).channels.getLsbD 1 = true
      ∧ (s.channel 1).governing = some 20 ∧ (s.channel 1).wave.mode ≠ .periodic ∧ (s.args 1 0)[2] ≠ 1)
    ∧ (let s := load 1 0 [at5 20, 0, 0xFFFF, 0xFFFF] shop
       Held 1 [at5 20, 0, 0xFFFF, 0xFFFF] 20 shop ∧ (s.args 1 0)[1] = natWord (0 : Fin 16).val ∧ (s.lease 20).channels.getLsbD 0 = true
        ∧ (s.channel 0).governing = some 20 ∧ (s.channel 0).wave.mode = .periodic ∧ (s.args 1 0)[2] ≠ 1) := by decide +kernel

theorem witness_AcknowledgeNotices :
    (let s := load 1 0 [at5 9, 63, 2] shop
     s.canTake 1 0 ∧ s.names (s.args 1 0)[0] 9 ∧ (s.lease 9).holder = some 1 ∧ (s.args 1 0)[1].toNat ≤ 63
      ∧ (s.lease 9).noticeCount = (s.args 1 0)[2])
    ∧ (let s := load 1 0 [at5 9, 0, 1] shop
       s.canTake 1 0 ∧ s.names (s.args 1 0)[0] 9 ∧ (s.lease 9).holder = some 1 ∧ (s.args 1 0)[1].toNat ≤ 63
        ∧ (s.lease 9).noticeCount ≠ (s.args 1 0)[2])
    ∧ shop.canTake 0 0 := by decide +kernel

theorem witness_SupervisorSetsTheBases :
    (Taken 0 [4096, 0] shop ∧ badAtPort 0x51 ((load 0 0 [4096, 0] shop).args 0 0) = false)
    ∧ (Taken 0 [1, 1] shop ∧ badAtPort 0x51 ((load 0 0 [1, 1] shop).args 0 0) = false)
    ∧ (Taken 0 [256, 0, 1] shop ∧ badAtPort 0x52 ((load 0 0 [256, 0, 1] shop).args 0 0) = false)
    ∧ shop.baseB.state = .running
    ∧ (State.reset.canTake 0 0 ∧ State.reset.baseB.state ≠ .running)
    ∧ (let s := run (.startBaseB 0 0) State.reset
       s.canTake 0 0 ∧ s.baseB.state = .running ∧ s.claims = []
        ∧ ((List.finRange 64).countP fun n => ((s.lease n).state == .held || (s.lease n).state == .grace) && (s.lease n).base == .b) = 0) := by
  decide +kernel

theorem witness_ConfigLineAndChannel :
    (let s := load 0 0 [7, 3] shop
     s.canTake 0 0 ∧ (s.args 0 0)[0] = natWord (7 : Fin 8).val ∧ (s.args 0 0)[1].toNat ≤ 3 ∧ ¬ s.lineTaken 7)
    ∧ (let s := load 0 0 [2, 0] shop
       s.canTake 0 0 ∧ (s.args 0 0)[0] = natWord (2 : Fin 8).val ∧ (s.args 0 0)[1].toNat ≤ 3 ∧ (s.line 2).bound = some 3)
    ∧ (let s := load 0 0 [4, 1] shop
       s.canTake 0 0 ∧ (s.args 0 0)[0] = natWord (4 : Fin 8).val ∧ (s.args 0 0)[1].toNat ≤ 3 ∧ (s.line 4).bound = none
        ∧ s.claims.map (·.line) = [some 4])
    ∧ (let s := load 0 0 [15, 1, 2, 1, 1, 0xFFFF] shop
       s.canTake 0 0 ∧ (s.args 0 0)[0] = natWord (15 : Fin 16).val ∧ badAtPort 0x61 (s.args 0 0) = false
        ∧ (s.channel 15).state = .idle ∧ ¬ s.reservedChannel 15)
    ∧ (let s := load 0 0 [7, 0, 0, 0, 0, 0] shop
       s.canTake 0 0 ∧ (s.args 0 0)[0] = natWord (7 : Fin 16).val ∧ badAtPort 0x61 (s.args 0 0) = false ∧ (s.channel 7).state ≠ .idle)
    ∧ (let s := load 0 0 [9, 0, 0, 0, 0, 0] shop
       (s.args 0 0)[0] = natWord (9 : Fin 16).val ∧ (s.channel 9).state = .idle ∧ s.reservedChannel 9) := by decide +kernel

theorem witness_ConfigMasterWritesTheRecord :
    (let s := load 0 0 [0, 7, 1, 64, 7, 1] shop
     s.canTake 0 0 ∧ (s.args 0 0)[0] = 0 ∧ badAtPort 0x70 (s.args 0 0) = false ∧ (s.args 0 0)[1] = natWord (7 : Fin 8).val)
    ∧ (let s := load 0 0 [0, 0, 0, 0, 0, 0] shop
       s.canTake 0 0 ∧ (s.args 0 0)[0] = 0 ∧ badAtPort 0x70 (s.args 0 0) = false ∧ (s.args 0 0)[1] = natWord (0 : Fin 8).val)
    ∧ (let s := load 1 0 [1, 7, 1] shop
       s.canTake 1 0 ∧ (s.args 1 0)[0] = 1 ∧ badAtPort 0x70 (s.args 1 0) = false) := by decide +kernel

/-- A disabled master; an enabled one with leases and a waiting claim; an enabled one with nothing to end, so that no scan follows. -/
theorem witness_DisableMasterCutsTheMasterOff :
    (let s := load 0 0 [7] shop
     s.canTake 0 0 ∧ (7 : Fin 8) ≠ 0 ∧ (s.args 0 0)[0] = natWord (7 : Fin 8).val ∧ (s.master 7).enabled = false)
    ∧ (let s := load 0 0 [1] shop
       s.canTake 0 0 ∧ (1 : Fin 8) ≠ 0 ∧ (s.args 0 0)[0] = natWord (1 : Fin 8).val ∧ (s.master 1).enabled = true)
    ∧ (load 0 0 [1] shop).kept
    ∧ (let s := load 0 0 [3] (shop.setMaster 3 { shop.master 3 with enabled := true })
       s.canTake 0 0 ∧ (s.args 0 0)[0] = natWord (3 : Fin 8).val ∧ (s.master 3).enabled = true
        ∧ ¬ ((∃ n : Fin 64, (s.lease n).holder = some 3) ∨ (∃ q ∈ s.claims, q.master = 3)))
    ∧ (load 0 0 [3] (shop.setMaster 3 { shop.master 3 with enabled := true })).kept := by
  and_intros <;> decide +kernel

theorem witness_OutputPinLevels :
    shop.resetAsserted = false ∧ (shop.channel 15).state = .idle ∧ (shop.channel 8).state = .parked ∧ (shop.channel 0).state = .active
    ∧ (shop.channel 7).state = .draining := by decide +kernel

theorem witness_PresentedItemAndInterruptLine :
    shop.resetAsserted = false ∧ shop.presented 2 = some (.lease 12, 3) ∧ shop.presented 0 = none ∧ shop.candidates 0 = [] := by
  decide +kernel

theorem witness_PinsDriveTheBases :
    (shop.settled ∧ shop.frozenA = false ∧ shop.baseB.state = .running ∧ shop.frozenB = false)
    ∧ (let s := { shop with freeze := true }
       s.settled ∧ s.frozenA = true ∧ ¬ (s.baseB.state = .running ∧ s.frozenB = false)) := by decide +kernel

theorem witness_TicksAdvanceTheBases :
    (let s := { shop with baseA := { shop.baseA with count := 1 } }
     s.resetAsserted = false ∧ s.freeze = false ∧ s.baseA.divisorInUse.toNat ≤ s.baseA.count)
    ∧ (let s := { shop with baseB := { shop.baseB with edgeCount := 1 } }
       s.resetAsserted = false ∧ s.baseA.count < s.baseA.divisorInUse.toNat ∧ s.baseB.state = .running ∧ s.frozenB = false
        ∧ s.baseB.divisorInUse.toNat ≤ s.baseB.edgeCount)
    ∧ ¬ (shop.baseB.state = .running ∧ shop.frozenB = false ∧ shop.baseB.divisorInUse.toNat ≤ shop.baseB.edgeCount)
    ∧ ({ shop with freeze := true } : State).frozenA = true := by decide +kernel

/-- An empty queue; a head not reached; a HELD head with grace just reached, with a wait deadline of the
same A-tick still open; a head in grace, and a HELD head without grace, just reached. -/
theorem witness_ExpiryEventActsOnTheHead :
    (State.reset.resetAsserted = false ∧ State.reset.aTickDue = false ∧ State.reset.bTickDue = false ∧ State.reset.expiryQueue .b = [])
    ∧ (let s := atA 5499 shop
       s.resetAsserted = false ∧ s.aTickDue = false ∧ s.bTickDue = false ∧ s.expiryQueue .a = 3 :: [20] ∧ (s.lease 3).base = .a ∧ ¬ (s.now .a - (s.lease 3).expiry).toNat < 2147483648)
    ∧ (let s := atA 6000 shop
       s.quiet = false ∧ s.resetAsserted = false ∧ s.aTickDue = false ∧ s.bTickDue = false ∧ s.expiryQueue .a = 3 :: [20] ∧ (s.lease 3).base = .a ∧ (s.now .a - (s.lease 3).expiry).toNat < 2147483648
        ∧ (s.lease 3).state = .held ∧ (s.lease 3).grace ≠ 0)
    ∧ (let s := atB 900 shop
       s.resetAsserted = false ∧ s.aTickDue = false ∧ s.bTickDue = false ∧ s.expiryQueue .b = 12 :: [] ∧ (s.lease 12).base = .b ∧ (s.now .b - (s.lease 12).expiry).toNat < 2147483648
        ∧ (s.lease 12).state = .grace
        ∧ ∀ c : Fin 16, (s.lease 12).channels.getLsbD c.val = true → (s.channel c).state = .active ∨ (s.channel c).state = .parked) := by
  decide +kernel

/-- A watch one tick short of its limit, and one that has reached it. -/
theorem witness_StallEndsTheWorkOnBaseB :
    (let s := { shop with baseB := { shop.baseB with stallWatch := 49 } }
     s.resetAsserted = false ∧ s.aTickDue = false ∧ s.bTickDue = false
      ∧ ¬ (s.watchRuns = true ∧ s.baseB.stallLimit.toNat ≤ s.baseB.stallWatch.toNat))
    ∧ (let s := { shop with baseB := { shop.baseB with stallWatch := 50 } }
       s.resetAsserted = false ∧ s.aTickDue = false ∧ s.bTickDue = false ∧ s.watchRuns = true
        ∧ s.baseB.stallLimit.toNat ≤ s.baseB.stallWatch.toNat)
    ∧ ({ shop with baseB := { shop.baseB with stallWatch := 50 } } : State).kept := by
  and_intros <;> decide +kernel

theorem witness_ReachedDeadlinesTimeOut :
    let due (s : State) (q : Claim) : Bool := match q.deadline with
      | none => false | some t => decide ((s.baseA.counter - t).toNat < 2147483648)
    (let s := atA 5499 shop
     s.resetAsserted = false ∧ s.aTickDue = false ∧ s.bTickDue = false ∧ ∀ q ∈ s.claims, due s q = false)
    ∧ (let s := atA 5500 shop
       s.resetAsserted = false ∧ s.aTickDue = false ∧ s.bTickDue = false ∧ ∃ q ∈ s.claims, due s q = true) := by decide +kernel

/-- Channel `c` of `shop` with this waveform, at an A-tick that reads `now`, meets the common hypotheses. -/
abbrev Ticking (c : Fin 16) (v : Waveform) (now : Stamp) (n : Fin 64) : Prop :=
  let s := waving c v (atA now shop)
  s.resetAsserted = false ∧ s.aTickDue = false ∧ s.bTickDue = false ∧ (s.channel c).governing = some n

/-- Comparators: neither reached, the rise alone (with the fall armed and not), the fall alone, both. Periods: before, at and past the width, at
the boundary. -/
theorem witness_GeneratorsActAtATicks :
    (Ticking 1 (shop.channel 1).wave 6999 20 ∧ (shop.channel 1).wave.mode = .single ∧ (6999 - 7000 : Stamp).toNat ≥ 2147483648)
    ∧ (Ticking 1 (shop.channel 1).wave 7000 20 ∧ (7000 - 7000 : Stamp).toNat < 2147483648 ∧ (shop.channel 1).wave.fall = none)
    ∧ Ticking 1 { (shop.channel 1).wave with fall := some 7001 } 7000 20
    ∧ Ticking 1 { (shop.channel 1).wave with fall := some 6999 } 6999 20
    ∧ Ticking 1 { (shop.channel 1).wave with fall := some 7000 } 7000 20
    ∧ (let v : Waveform := { (periodic .active none).wave with position := 4 }
       Ticking 0 v 5000 20 ∧ v.mode = .periodic ∧ v.position = v.width ∧ v.width.toNat < v.period.toNat)
    ∧ (let v : Waveform := { (periodic .active none).wave with position := 3 }
       Ticking 0 v 5000 20 ∧ ¬ (v.mode = .periodic ∧ v.position = v.width ∧ v.width.toNat < v.period.toNat))
    ∧ (let v : Waveform := { (periodic .active none).wave with position := 10 }
       Ticking 0 v 5000 20 ∧ (shop.channel 0).state = .active ∧ v.mode = .periodic ∧ v.position = v.period ∧ v.period ≠ 0)
    ∧ (let v : Waveform := { (periodic .active none).wave with position := 9 }
       Ticking 0 v 5000 20 ∧ ¬ (((shop.channel 0).state = .active ∨ (shop.channel 0).state = .parked) ∧ v.mode = .periodic
        ∧ v.position = v.period ∧ v.period ≠ 0)) := by decide +kernel

theorem witness_DrainEndsAtTheBoundary :
    (let s := waving 7 { (periodic .draining none).wave with position := 9 } shop
     s.resetAsserted = false ∧ s.aTickDue = false ∧ s.bTickDue = false
      ∧ ¬ ((s.channel 7).state = .draining ∧ (s.channel 7).wave.mode = .periodic
        ∧ (s.channel 7).wave.position = (s.channel 7).wave.period ∧ (s.channel 7).wave.period ≠ 0))
    ∧ (let s := waving 7 { (periodic .draining none).wave with position := 10 } shop
       s.resetAsserted = false ∧ s.aTickDue = false ∧ s.bTickDue = false
        ∧ (s.channel 7).state = .draining ∧ (s.channel 7).wave.mode = .periodic
        ∧ (s.channel 7).wave.position = (s.channel 7).wave.period ∧ (s.channel 7).wave.period ≠ 0) := by decide +kernel

/-- The longest term, at the last tick at which its stamp is still reached; a queue in order, with two entries at one distance. -/
theorem witness_StampsAreReachedAndQueuedInOrder :
    (2 ^ 31 + 16777214 < 2 ^ 31 + (16777215 : Ticks).toNat)
    ∧ [(3 : Fin 64), 12, 20, 21].Pairwise (fun x y => ((x.val / 10 : Nat) : Int) ≤ ((y.val / 10 : Nat) : Int)) := by decide

/-- A claim that waits, not grantable; a scan leaves it, and a step that takes it away has a next state. -/
theorem witness_ScanLeavesNoGrantableClaim :
    shop.scan.claims = shop.claims ∧ shop.claims.length = 1 ∧ ({ shop with pending := [.windowReset 1 1] } : State).noneGrantable
    ∧ ∃ t, step { shop with pending := [.windowReset 1 1] } = .next t :=
  ⟨by decide +kernel, by decide, by decide +kernel, step_answers_next _⟩

/-- Queue A holds two leases, in order. -/
theorem witness_StepKeepsExpiryQueues :
    ({ shop with pending := [.windowReset 1 1] } : State).queuesOrdered ∧ ({ shop with pending := [.windowReset 1 1] } : State).stampsNear
    ∧ shop.stampDistance .a 3 = 1000 ∧ shop.stampDistance .a 20 = 1500 := by decide +kernel

/-- For StepKeepsWindows, StepKeepsMastersAndDivisors, StepKeepsWaits, StepKeepsOffers, StepKeepsChannelGovernance, StepKeepsWaveforms,
StepKeepsExpiryQueues, StepKeepsLineBindings, StepKeepsLeaseCounts, StepKeepsBaseB and StepKeepsLeaseRecords: the conditions hold on a
state with work in every block and a row waiting, and its step has a next state. -/
theorem witness_StepKeeps :
    ({ shop with pending := [.windowReset 1 1] } : State).kept ∧ ∃ t, step { shop with pending := [.windowReset 1 1] } = .next t :=
  ⟨shop_is_kept, step_answers_next _⟩

theorem witness_GenerationChangesOnlyAtAGrant :
    shop.settled ∧ (Instr.claim 1 0) ≠ .resetN true
    ∧ ∃ t, exec (.claim 1 0) (load 1 0 [4, 64] shop) = .next t :=
  ⟨shop_is_settled, by decide, exec_answers_next _ _⟩

theorem witness_CountNeverRisesAboveQuota :
    let s := load 1 0 [4, 64] (shop.setMaster 1 { shop.master 1 with quota := 3 })
    s.settled ∧ (s.master 1).count < ((run (.claim 1 0) s).master 1).count ∧ ((run (.claim 1 0) s).master 1).count = 3 := by
  decide +kernel

theorem witness_UserMastersReachOnlyTheirOwn :
    shop.settled ∧ shop.channelsKept ∧ issuer (.claim 1 0) = some 1 ∧ (1 : Fin 8) ≠ 0
    ∧ ((shop.lease 12).state ≠ .free ∧ (shop.lease 12).holder = some 2 ∧ (2 : Fin 8) ≠ 1 ∧ (shop.lease 12).offerTarget ≠ some 1)
    ∧ (∀ q ∈ shop.claims, ¬ (q.master = 2 ∧ q.window = 0)) := by
  and_intros <;> decide +kernel

theorem witness_UserMastersReachOnlyTheirOwn_next : ∃ t, exec (.claim 1 0) shop = .next t := exec_answers_next _ _

end Sys2Proof.Tests
end

section
/-! PROOFS. CLAIM (chapter 3): the six checks of R49 and the refusals of R51 and R52, each said once of the model's own functions, and the
statements about a refused claim. -/

namespace Sys2Proof.Machine

variable (s : State) (m : Fin 8) (w : Fin 2) (a : Args)

/-! ### The argument words of CLAIM at the port (R48, R175) -/

/-- A word that has one of two codes, 0 and 1, has none exactly beyond 1. -/
theorem twoCodes_isNone {α : Type} (x y : α) (v : Word) :
    (if v = 0 then some x else if v = 1 then some y else none).isNone = decide (1 < v.toNat) := by
  by_cases h0 : v = 0
  · simp [h0]
  · by_cases h1 : v = 1
    · simp [h1]
    · have : 1 < v.toNat := by bv_omega
      rw [if_neg h0, if_neg h1]
      simpa using this

theorem onOffOfWord_isNone (v : Word) : (onOffOfWord v).isNone = decide (1 < v.toNat) := twoCodes_isNone ..

theorem baseOfCode_isNone (v : Word) : (baseOfCode v).isNone = decide (1 < v.toNat) := twoCodes_isNone ..

theorem graceActionOfWord_isNone (v : Word) : (graceActionOfWord v).isNone = decide (1 < v.toNat) := twoCodes_isNone ..

/-- R48: the owner's reading of the port check and the port's table agree. -/
theorem claimBad_eq_badAtPort : claimBad a = badAtPort 0x10 a := by
  simp only [claimBad, claimBaseCode, claimGraceActionCode, claimUrgencyCode, claimBoundaryCode, baseOfCode_isNone,
    graceActionOfWord_isNone, onOffOfWord_isNone, BitVec.toNat_setWidth_of_le (show 2 ≤ 16 by decide),
    BitVec.toNat_setWidth_of_le (show 4 ≤ 16 by decide), badAtPort, if_true, Bool.decide_or, Bool.or_assoc]

/-- A base code that the port passes is its bit 0. -/
theorem baseOfCode_of_le_one : ∀ x : BitVec 2, ¬ 1 < x.toNat →
    (baseOfCode (x.setWidth 16)).getD .a = if x.getLsbD 0 then .b else .a := by decide

/-- R175: past the port, the claim's base is the one bit 0 of word 4 names. -/
theorem claimOf_base (hp : badAtPort 0x10 a = false) : (claimOf m w a).base = claimBase a := by
  have hcode : ¬ 1 < (a[4].extractLsb' 0 2).toNat := (not_or.1 (of_decide_eq_false hp)).1
  have hbit : (a[4].extractLsb' 0 2).getLsbD 0 = a[4].getLsbD 0 := by simp
  exact (baseOfCode_of_le_one _ hcode).trans (by rw [hbit, claimBase])

theorem claimOf_channels : (claimOf m w a).channels = a[0] := rfl

theorem claimOf_master : (claimOf m w a).master = m := rfl

theorem claimOf_line : (claimOf m w a).line = claimLine a := rfl

/-! ### The searches of CLAIM -/

/-- The search over a set finds the lowest channel with the property that its test decides. -/
theorem lowestIn_eq_some_iff_isLowest {set : ChannelSet} {p : Fin 16 → Bool} {P : Fin 16 → Prop} (h : ∀ c, p c = true ↔ P c)
    {c : Fin 16} : lowestIn set p = some c ↔ isLowest set P c := by
  simp only [lowestIn_eq_some, isLowest, ← h, Bool.not_eq_true]

/-- The search over a set finds nothing exactly when none of its channels has the property that its test decides. -/
theorem lowestIn_eq_none_iff_forall_not {set : ChannelSet} {p : Fin 16 → Bool} {P : Fin 16 → Prop} (h : ∀ c, p c = true ↔ P c) :
    lowestIn set p = none ↔ ∀ c : Fin 16, set.getLsbD c.val = true → ¬ P c := by
  simp only [lowestIn_eq_none, ← h, Bool.not_eq_true]

/-- R123: the test of `lowestForbidden`. -/
theorem not_permitted_iff_forbids (c : Fin 16) : (!(s.channel c).config.permitted.getLsbD m.val) = true ↔ s.forbids m c := by
  simp [State.forbids]

/-- R49, check 4: the channel is governed by some live lease of the master. -/
theorem ownGoverned_iff_governedBy (c : Fin 16) : s.ownGoverned m c = true ↔ ∃ n : Fin 64, s.governedBy m c n := by
  simp only [ownGoverned_iff, State.governedBy, exists_and_left]

theorem governor_of_governedBy {c : Fin 16} {n : Fin 64} (h : s.governedBy m c n) : s.governor c = some (n, s.lease n) := by
  obtain ⟨hstate, hgov, -, -⟩ := h
  simp [State.governor, (channel_governed_iff _).2 hstate, hgov]

/-- R49, check 5: the line is bound, or named by a waiting claim. -/
theorem lineBusy_iff_lineTaken (k : Fin 8) : s.lineBusy k = true ↔ s.lineTaken k := by
  simp [State.lineBusy, State.lineTaken, State.claimOnLine, Option.isSome_iff_ne_none]

theorem lowestForbidden_eq_some {set : ChannelSet} {c : Fin 16} :
    s.lowestForbidden set m = some c ↔ isLowest set (s.forbids m) c :=
  lowestIn_eq_some_iff_isLowest (not_permitted_iff_forbids s m)

theorem lowestForbidden_eq_none {set : ChannelSet} :
    s.lowestForbidden set m = none ↔ ∀ c : Fin 16, set.getLsbD c.val = true → ¬ s.forbids m c :=
  lowestIn_eq_none_iff_forall_not (not_permitted_iff_forbids s m)

theorem lowestIn_ownGoverned_eq_some {set : ChannelSet} {c : Fin 16} :
    lowestIn set (s.ownGoverned m) = some c ↔ isLowest set (fun d => ∃ n : Fin 64, s.governedBy m d n) c :=
  lowestIn_eq_some_iff_isLowest (ownGoverned_iff_governedBy s m)

theorem lowestIn_ownGoverned_eq_none {set : ChannelSet} :
    lowestIn set (s.ownGoverned m) = none ↔
      ∀ c : Fin 16, set.getLsbD c.val = true → ∀ n : Fin 64, ¬ s.governedBy m c n := by
  simp only [lowestIn_eq_none_iff_forall_not (ownGoverned_iff_governedBy s m), not_exists]

/-! ### The six checks of R49, in their order

One equation per check, each under the checks before it. -/

section Checks

variable {s m a}

theorem claimRefusal_of_malformed (h : claimMalformed a) : s.claimRefusal (claimOf m w a) a = some (.badArgument, []) :=
  if_pos h

variable (hwf : ¬ claimMalformed a)
include hwf

theorem claimRefusal_of_forbidden {c : Fin 16} (h : isLowest a[0] (s.forbids m) c) :
    s.claimRefusal (claimOf m w a) a = some (.notPermitted, [natWord c.val]) := by
  refine (if_neg hwf).trans ?_
  simp only [claimOf_channels, claimOf_master, (lowestForbidden_eq_some s m).2 h]

variable (hp : badAtPort 0x10 a = false) (hperm : ∀ c : Fin 16, a[0].getLsbD c.val = true → ¬ s.forbids m c)
include hp hperm

theorem claimRefusal_of_baseStopped (h : s.claimBaseStopped a) :
    s.claimRefusal (claimOf m w a) a = some (.baseUnavailable, [s.baseB.state.code]) := by
  refine (if_neg hwf).trans ?_
  simp only [claimOf_channels, claimOf_master, claimOf_base m w a hp, (lowestForbidden_eq_none s m).2 hperm]
  exact if_pos h

variable (hbase : ¬ s.claimBaseStopped a)
include hbase

theorem claimRefusal_of_governed {c : Fin 16} {n : Fin 64}
    (h : isLowest a[0] (fun d => ∃ k : Fin 64, s.governedBy m d k) c) (hn : s.governedBy m c n) :
    s.claimRefusal (claimOf m w a) a = some (.ownConflict, [natWord c.val, s.handle n]) := by
  refine (if_neg hwf).trans ?_
  simp only [claimOf_channels, claimOf_master, claimOf_base m w a hp, (lowestForbidden_eq_none s m).2 hperm,
    (lowestIn_ownGoverned_eq_some s m).2 h, governor_of_governedBy s m hn]
  exact if_neg hbase

variable (hown : ∀ c : Fin 16, a[0].getLsbD c.val = true → ∀ n : Fin 64, ¬ s.governedBy m c n)
include hown

theorem claimRefusal_of_lineTaken {k : Fin 8} (hk : claimLine a = some k) (h : s.lineTaken k) :
    s.claimRefusal (claimOf m w a) a = some (.lineBusy, [natWord k.val]) := by
  refine (if_neg hwf).trans ?_
  simp only [claimOf_channels, claimOf_master, claimOf_base m w a hp, claimOf_line, hk,
    (lowestForbidden_eq_none s m).2 hperm, (lowestIn_ownGoverned_eq_none s m).2 hown, (lineBusy_iff_lineTaken s k).2 h]
  exact if_neg hbase

variable (hline : ∀ k : Fin 8, claimLine a = some k → ¬ s.lineTaken k)
include hline

/-- Past check 5 the quota alone decides (check 6). -/
theorem claimRefusal_of_lineFree :
    s.claimRefusal (claimOf m w a) a =
      if (s.master m).quota ≤ (s.master m).count then
        some (.quota, [natWord (s.master m).count, natWord (s.master m).quota])
      else none := by
  refine (if_neg hwf).trans ?_
  simp only [claimOf_channels, claimOf_master, claimOf_base m w a hp, claimOf_line,
    (lowestForbidden_eq_none s m).2 hperm, (lowestIn_ownGoverned_eq_none s m).2 hown]
  rw [if_neg hbase]
  refine if_neg ?_
  generalize claimLine a = line at hline
  cases line with
  | none => exact Bool.false_ne_true
  | some k => exact mt (lineBusy_iff_lineTaken s k).1 (hline k rfl)

end Checks

/-- R49: a claim that passes the six checks is not refused by them. -/
theorem claimRefusal_of_claimPasses (h : s.claimPasses m a) : s.claimRefusal (claimOf m w a) a = none := by
  obtain ⟨hp, hwf, hperm, hbase, hown, hline, hquota⟩ := h
  rw [claimRefusal_of_lineFree w hwf hp hperm hbase hown hline, if_neg (Nat.not_le.2 hquota)]

/-! ### Grantable now, and not (R50, R51) -/

/-- R50: no record is granted at once exactly when one of the three conditions fails. -/
theorem grantableNow_eq_none_iff : s.grantableNow (claimOf m w a) = none ↔ s.claimMustWait a := by
  have hfree : (s.allIdle a[0] && (lowestIn a[0] s.isReserved).isNone) = true ↔ s.claimChannelsFree a := by
    simp only [Bool.and_eq_true, allIdle_iff, Option.isNone_iff_eq_none, lowestIn_eq_none_iff_forall_not (isReserved_iff s)]
    exact forall₂_and.symm
  simp only [State.grantableNow, claimOf_channels, hfree, State.claimMustWait]
  by_cases h : s.claimChannelsFree a
  · rw [if_pos h, lowestFree_eq_none]
    exact (or_iff_right (not_not.2 h)).symm
  · exact iff_of_true (if_neg h) (.inl h)

section NotNow

variable {s a}

theorem claimNotNow_of_notIdle {c : Fin 16} (h : isLowest a[0] (fun d => (s.channel d).state ≠ .idle) c) :
    s.claimNotNow (claimOf m w a) = (.channelBusy, [natWord c.val, (s.channel c).state.code]) := by
  simp only [State.claimNotNow, claimOf_channels, (lowestIn_eq_some_iff_isLowest fun _ => bne_iff_ne).2 h]

variable (hidle : ∀ c : Fin 16, a[0].getLsbD c.val = true → (s.channel c).state = .idle)
include hidle

theorem lowestIn_notIdle_eq_none : lowestIn a[0] (fun c => (s.channel c).state != .idle) = none :=
  (lowestIn_eq_none_iff_forall_not fun _ => bne_iff_ne).2 fun c hc => not_not.2 (hidle c hc)

theorem claimNotNow_of_reserved {c : Fin 16} (h : isLowest a[0] s.reservedChannel c) :
    s.claimNotNow (claimOf m w a) = (.channelReserved, [natWord c.val, natWord (s.waitingFor c)]) := by
  simp only [State.claimNotNow, claimOf_channels, lowestIn_notIdle_eq_none hidle,
    (lowestIn_eq_some_iff_isLowest (isReserved_iff s)).2 h]

theorem claimNotNow_of_channelsFree (hres : ∀ c : Fin 16, a[0].getLsbD c.val = true → ¬ s.reservedChannel c) :
    s.claimNotNow (claimOf m w a) = (.tableFull, []) := by
  simp only [State.claimNotNow, claimOf_channels, lowestIn_notIdle_eq_none hidle,
    (lowestIn_eq_none_iff_forall_not (isReserved_iff s)).2 hres]

end NotNow

/-! ### The row CLAIM, where its owner refuses

The owner reads no window, so what it answers on the state as it stands it answers once the command is taken. -/

theorem claimRefusal_setWindow (x : Window) (q : Claim) : (s.setWindow m w x).claimRefusal q a = s.claimRefusal q a := rfl

theorem grantableNow_setWindow (x : Window) (q : Claim) : (s.setWindow m w x).grantableNow q = s.grantableNow q := rfl

theorem claimNotNow_setWindow (x : Window) (q : Claim) : (s.setWindow m w x).claimNotNow q = s.claimNotNow q := rfl

section Row

variable {s m w}

/-- R163: a CLAIM that its owner refuses completes its window with the refusal, and nothing else changes. -/
theorem exec_claim_of_refused (hs : s.canTake m w) (hp : badAtPort 0x10 (s.args m w) = false) {code : ResultCode} {items : List Word}
    (h : ∀ x : Window, claimOwner m w (s.args m w) (s.setWindow m w x) = answer (s.setWindow m w x) code items) :
    exec (.claim m w) s = .next (s.finish m w 0x10 code items) := by
  obtain ⟨hsettled, hw, hen⟩ := hs
  have hport : portCheck s m (never (s.args m w)) (claimBad (s.args m w)) = none :=
    (portCheck_eq_none s m _ _).2 ⟨hen, .inl rfl, (claimBad_eq_badAtPort _).trans hp⟩
  rw [exec_claim, event_of_settled s _ hsettled]
  exact congrArg _ (takeCommand_unchanged_eq_finish s m w 0x10 never claimBad (claimOwner m w) hw hport (h _))

/-- R49: a check fails. -/
theorem exec_claim_of_claimRefusal (hs : s.canTake m w) (hp : badAtPort 0x10 (s.args m w) = false) {code : ResultCode}
    {items : List Word} (h : s.claimRefusal (claimOf m w (s.args m w)) (s.args m w) = some (code, items)) :
    exec (.claim m w) s = .next (s.finish m w 0x10 code items) :=
  exec_claim_of_refused hs hp fun x => by simp only [claimOwner, claimRefusal_setWindow, h]

variable (hs : s.canTake m w) (hpass : s.claimPasses m (s.args m w)) (hwait : s.claimMustWait (s.args m w))
include hs hpass hwait

/-- R51: the claim may not wait. -/
theorem exec_claim_of_claimNotNow (hlimit : claimWaitLimit (s.args m w) = 0) {code : ResultCode} {items : List Word}
    (h : s.claimNotNow (claimOf m w (s.args m w)) = (code, items)) :
    exec (.claim m w) s = .next (s.finish m w 0x10 code items) :=
  exec_claim_of_refused hs hpass.1 fun x => by
    simp only [claimOwner, claimRefusal_setWindow, claimRefusal_of_claimPasses s m w _ hpass, grantableNow_setWindow,
      (grantableNow_eq_none_iff s m w _).2 hwait, hlimit, if_true, claimNotNow_setWindow, h]

/-- R52: the claim may wait, and the queue is full. -/
theorem exec_claim_of_queueFull (hlimit : claimWaitLimit (s.args m w) ≠ 0) (hfull : 12 ≤ s.claims.length) :
    exec (.claim m w) s = .next (s.finish m w 0x10 .queueFull []) :=
  exec_claim_of_refused hs hpass.1 fun x => by
    simp only [claimOwner, claimRefusal_setWindow, claimRefusal_of_claimPasses s m w _ hpass, grantableNow_setWindow,
      (grantableNow_eq_none_iff s m w _).2 hwait, hlimit, if_false]
    exact if_pos hfull

end Row

/-! ### The statements -/

/-- Settles O10: each check by its own equation, under the checks before it. -/
theorem claimChecksInOrder : Obligations.ClaimChecksInOrder := by
  intro m w s hs hp
  refine ⟨fun hbad => ?malformed, fun hwf => ⟨fun c hc => ?forbidden, fun hperm => ⟨fun hstop => ?stopped, fun hbase =>
    ⟨fun c n hc hn => ?governed, fun hown => ⟨fun k hk htaken => ?lineTaken, fun hline hquota => ?quota⟩⟩⟩⟩⟩ <;>
    refine exec_claim_of_claimRefusal hs hp ?_
  case malformed => exact claimRefusal_of_malformed w hbad
  case forbidden => exact claimRefusal_of_forbidden w hwf hc
  case stopped => exact claimRefusal_of_baseStopped w hwf hp hperm hstop
  case governed => exact claimRefusal_of_governed w hwf hp hperm hbase hc hn
  case lineTaken => exact claimRefusal_of_lineTaken w hwf hp hperm hbase hown hk htaken
  case quota => exact (claimRefusal_of_lineFree w hwf hp hperm hbase hown hline).trans (if_pos hquota)

/-- Settles O13: a channel that is not IDLE or is reserved, or a table with no FREE record, is what makes the claim wait; the search
of R51 then finds that cause. -/
theorem claimThatCannotWaitIsRefused : Obligations.ClaimThatCannotWaitIsRefused := by
  intro m w s hs hpass
  refine ⟨fun hlimit => ⟨fun c hc => ?notIdle, fun hidle => ⟨fun c hc => ?reserved, fun hres hfull => ?tableFull⟩⟩,
    fun hlimit hwait hfull => exec_claim_of_queueFull hs hpass hwait hlimit hfull⟩
  case notIdle =>
    have ⟨hset, hbusy, _⟩ := hc
    have hwait : s.claimMustWait (s.args m w) := .inl fun hfree => hbusy (hfree c hset).1
    exact exec_claim_of_claimNotNow hs hpass hwait hlimit (claimNotNow_of_notIdle m w hc)
  case reserved =>
    have ⟨hset, hreserved, _⟩ := hc
    have hwait : s.claimMustWait (s.args m w) := .inl fun hfree => (hfree c hset).2 hreserved
    exact exec_claim_of_claimNotNow hs hpass hwait hlimit (claimNotNow_of_reserved m w hidle hc)
  case tableFull =>
    exact exec_claim_of_claimNotNow hs hpass (.inr hfull) hlimit (claimNotNow_of_channelsFree m w hidle hres)

end Sys2Proof.Machine
end

section
/-! PROOFS. CONFIG_LINE (section 4.5) and CONFIG_CHANNEL (section 7.6): their arguments at the port, what their owners answer, and the
statement about both. -/

namespace Sys2Proof.Machine

/-! ### A command that its owner completes -/

/-- R161, R163: a command that passes the port, and whose owner answers with an effect `t` that leaves the window as it was. The owner
reads no window, so it does not matter what the window holds meanwhile. -/
theorem event_takeCommand_eq_finish {s : State} {m : Fin 8} {w : Fin 2} (word : Word) {reserved bad : Args → Bool}
    {owner : Args → State → Reply} (hs : s.canTake m w) (hr : reserved (s.args m w) = false ∨ m = 0)
    (hbad : bad (s.args m w) = false) {t : State} {code : ResultCode} {items : List Word} (ht : t.window m w = s.window m w)
    (ho : ∀ x : Window, owner (s.args m w) (s.setWindow m w x) = answer (t.setWindow m w x) code items) :
    event (takeCommand m w word reserved bad owner) s = .next (t.finish m w word code items) := by
  obtain ⟨hsettled, hw, hen⟩ := hs
  have hport : portCheck s m (reserved (s.args m w)) (bad (s.args m w)) = none := (portCheck_eq_none s m _ _).2 ⟨hen, hr, hbad⟩
  rw [event_of_settled s _ hsettled, takeCommand_answered s m w word reserved bad owner hw hport (ho _), ← ht,
    setWindow_take_complete]

variable (s : State) (w : Fin 2) (a : Args)

/-! ### CONFIG_LINE -/

/-- The four edge settings have the codes 0 to 3. -/
theorem edgeSettingOfWord_isNone (v : Word) : (edgeSettingOfWord v).isNone = decide (3 < v.toNat) := by
  by_cases h : v = 0 ∨ v = 1 ∨ v = 2 ∨ v = 3
  · rcases h with rfl | rfl | rfl | rfl <;> rfl
  · have hbeyond : 3 < v.toNat := by bv_omega
    obtain ⟨h0, h1, h2, h3⟩ : v ≠ 0 ∧ v ≠ 1 ∧ v ≠ 2 ∧ v ≠ 3 := by simpa only [not_or] using h
    rw [edgeSettingOfWord, if_neg h0, if_neg h1, if_neg h2, if_neg h3]
    simpa using hbeyond

/-- The edge setting of a code from 0 to 3. -/
theorem edgeSettingOfWord_of_le_three {v : Word} (h : v.toNat ≤ 3) :
    (edgeSettingOfWord v).getD .off = match v.toNat with | 0 => .off | 1 => .rising | 2 => .falling | _ => .both := by
  have hv : v = 0 ∨ v = 1 ∨ v = 2 ∨ v = 3 := by bv_omega
  rcases hv with rfl | rfl | rfl | rfl <;> rfl

/-- R83: a line number and an edge code in range pass the port. -/
theorem configLineBad_eq_false {k : Fin 8} (hk : a[0] = natWord k.val) (he : a[1].toNat ≤ 3) : configLineBad a = false := by
  have hline : ∀ j : Fin 8, ¬ 7 < (natWord j.val).toNat := by decide
  simp [configLineBad, edgeSettingOfWord_isNone, hk, hline, he]

theorem lineRefusal_of_bound {k : Fin 8} {n : Fin 64} (h : (s.line k).bound = some n) :
    s.lineRefusal k = some (.lineBusy, [s.handle n]) := by
  simp only [State.lineRefusal, h]

theorem lineRefusal_of_unbound {k : Fin 8} (h : (s.line k).bound = none) :
    s.lineRefusal k = (s.claimOnLine k).map fun q => (.lineBusy, [q.arrival]) := by
  simp only [State.lineRefusal, h]

/-- R47: the queue is in order of arrival, so the oldest claim that names a line is the first one that does. -/
theorem claimOnLine_of_split {k : Fin 8} {older newer : List Claim} {q : Claim} (hq : s.claims = older ++ q :: newer)
    (hline : q.line = some k) (hfirst : ∀ r ∈ older, r.line ≠ some k) : s.claimOnLine k = some q := by
  have hnone : older.find? (fun r => r.line == some k) = none :=
    List.find?_eq_none.2 fun r hr => by simpa using hfirst r hr
  simp [State.claimOnLine, hq, hnone, hline]

theorem lineRefusal_of_not_lineTaken {k : Fin 8} (h : ¬ s.lineTaken k) : s.lineRefusal k = none := by
  simp only [State.lineTaken, not_or, not_not, not_exists, not_and] at h
  obtain ⟨hbound, hclaims⟩ := h
  have hnone : s.claimOnLine k = none := List.find?_eq_none.2 fun q hq => by simpa using hclaims q hq
  rw [lineRefusal_of_unbound s hbound, hnone, Option.map_none]

theorem lineRefusal_setWindow (m : Fin 8) (x : Window) (k : Fin 8) : (s.setWindow m w x).lineRefusal k = s.lineRefusal k := rfl

section Line

variable {s w} {k : Fin 8} (hs : s.canTake 0 w) (hk : (s.args 0 w)[0] = natWord k.val) (he : (s.args 0 w)[1].toNat ≤ 3)
include hs hk he

/-- R83: the line is bound, or a waiting claim names it. -/
theorem exec_configLine_of_lineRefusal {code : ResultCode} {items : List Word} (h : s.lineRefusal k = some (code, items)) :
    exec (.configLine 0 w) s = .next (s.finish 0 w 0x60 code items) :=
  event_takeCommand_eq_finish 0x60 hs (.inr rfl) (configLineBad_eq_false _ hk he) rfl fun x => by
    simp only [configLineOwner, hk, eightOfWord_natWord, lineRefusal_setWindow, h]

/-- R83: the edge setting of a free line is written. -/
theorem exec_configLine_of_lineFree (h : s.lineRefusal k = none) :
    exec (.configLine 0 w) s = .next
      ((s.setLine k { s.line k with edge := (edgeSettingOfWord (s.args 0 w)[1]).getD .off }).finish 0 w 0x60 .ok []) :=
  event_takeCommand_eq_finish 0x60 hs (.inr rfl) (configLineBad_eq_false _ hk he) rfl fun x => by
    simp only [configLineOwner, hk, eightOfWord_natWord, lineRefusal_setWindow, h, setWindow_line]
    rfl

end Line

/-! ### CONFIG_CHANNEL -/

/-- The three safe levels have the codes 0 to 2. -/
theorem safeLevelOfWord_isNone (v : Word) : (safeLevelOfWord v).isNone = decide (2 < v.toNat) := by
  by_cases h : v = 0 ∨ v = 1 ∨ v = 2
  · rcases h with rfl | rfl | rfl <;> rfl
  · have hbeyond : 2 < v.toNat := by bv_omega
    obtain ⟨h0, h1, h2⟩ : v ≠ 0 ∧ v ≠ 1 ∧ v ≠ 2 := by simpa only [not_or] using h
    rw [safeLevelOfWord, if_neg h0, if_neg h1, if_neg h2]
    simpa using hbeyond

theorem polarityOfWord_isNone (v : Word) : (polarityOfWord v).isNone = decide (1 < v.toNat) := twoCodes_isNone ..

theorem driveOfWord_isNone (v : Word) : (driveOfWord v).isNone = decide (1 < v.toNat) := twoCodes_isNone ..

theorem releaseStyleOfWord_isNone (v : Word) : (releaseStyleOfWord v).isNone = decide (1 < v.toNat) := twoCodes_isNone ..

/-- R124: the owner's reading of the port check and the port's table agree. -/
theorem configChannelBad_eq_badAtPort : configChannelBad a = badAtPort 0x61 a := by
  have htable : badAtPort 0x61 a =
      decide (15 < a[0].toNat ∨ 1 < a[1].toNat ∨ 2 < a[2].toNat ∨ 1 < a[3].toNat ∨ 1 < a[4].toNat ∨ (a[3] = 1 ∧ a[2] = 1)) := rfl
  simp only [htable, configChannelBad, polarityOfWord_isNone, safeLevelOfWord_isNone, driveOfWord_isNone,
    releaseStyleOfWord_isNone, Bool.decide_or, Bool.decide_and, Bool.or_assoc, Bool.beq_eq_decide_eq]

/-- A word that has one of two codes, read with code 0 where it has none. -/
theorem twoCodes_getD {α : Type} (x y : α) (v : Word) :
    (if v = 0 then some x else if v = 1 then some y else none).getD x = if v = 1 then y else x := by
  by_cases h0 : v = 0
  · subst h0; rfl
  · rw [if_neg h0]
    split_ifs <;> rfl

theorem safeLevelOfWord_getD (v : Word) :
    (safeLevelOfWord v).getD .openLevel = if v = 0 then .low else if v = 1 then .high else .openLevel := by
  simp only [safeLevelOfWord]
  split_ifs <;> rfl

/-- R124, R173: the five fields that the argument words give. -/
theorem configOf_eq : configOf a =
    { polarity := if a[1] = 1 then .inverted else .normal
      safeLevel := if a[2] = 0 then .low else if a[2] = 1 then .high else .openLevel
      drive := if a[3] = 1 then .openDrain else .pushPull
      releaseStyle := if a[4] = 1 then .atBoundary else .immediate
      permitted := a[5].setWidth 8 } := by
  have hpermitted : mastersOfWord a[5] = a[5].setWidth 8 := (BitVec.setWidth_eq_extractLsb' (by decide)).symm
  simp only [configOf, polarityOfWord, driveOfWord, releaseStyleOfWord, twoCodes_getD, safeLevelOfWord_getD, hpermitted]

/-- R125: the five fields as result items, each two-valued field by its code 1. -/
theorem ChannelConfig.words_eq (g : ChannelConfig) : g.words =
    [if g.polarity = .inverted then 1 else 0, g.safeLevel.code, if g.drive = .openDrain then 1 else 0,
      if g.releaseStyle = .atBoundary then 1 else 0, g.permitted.setWidth 16] := by
  obtain ⟨polarity, safeLevel, drive, releaseStyle, permitted⟩ := g
  have hpolarity : polarity.code = if polarity = .inverted then 1 else 0 := by cases polarity <;> rfl
  have hdrive : drive.code = if drive = .openDrain then 1 else 0 := by cases drive <;> rfl
  have hstyle : releaseStyle.code = if releaseStyle = .atBoundary then 1 else 0 := by cases releaseStyle <;> rfl
  simp only [ChannelConfig.words, hpolarity, hdrive, hstyle, mastersWord]

theorem isReserved_setWindow (m : Fin 8) (x : Window) (c : Fin 16) : (s.setWindow m w x).isReserved c = s.isReserved c := rfl

theorem waitingFor_setWindow (m : Fin 8) (x : Window) (c : Fin 16) : (s.setWindow m w x).waitingFor c = s.waitingFor c := rfl

section Channel

variable {s w} {c : Fin 16} (hs : s.canTake 0 w) (hc : (s.args 0 w)[0] = natWord c.val)
  (hp : badAtPort 0x61 (s.args 0 w) = false)
include hs hc hp

/-- R125: the channel is not IDLE, or a waiting claim names it. -/
theorem exec_configChannel_of_busy (h : (s.channel c).state ≠ .idle ∨ s.reservedChannel c) :
    exec (.configChannel 0 w) s = .next
      (s.finish 0 w 0x61 .channelBusy [(s.channel c).state.code, natWord (s.waitingFor c)]) :=
  event_takeCommand_eq_finish 0x61 hs (.inr rfl) ((configChannelBad_eq_badAtPort _).trans hp) rfl fun x => by
    have hbusy : (s.channel c).state ≠ .idle ∨ s.isReserved c = true := h.imp_right (isReserved_iff s c).2
    simp only [configChannelOwner, hc, channelOfWord_natWord, setWindow_channel, isReserved_setWindow, waitingFor_setWindow,
      if_pos hbusy]

/-- R125: the five fields of a free channel are replaced, and the former ones reported. -/
theorem exec_configChannel_of_free (hidle : (s.channel c).state = .idle) (hfree : ¬ s.reservedChannel c) :
    exec (.configChannel 0 w) s = .next
      ((s.setChannel c { s.channel c with config := configOf (s.args 0 w) }).finish 0 w 0x61 .ok (s.channel c).config.words) :=
  event_takeCommand_eq_finish 0x61 hs (.inr rfl) ((configChannelBad_eq_badAtPort _).trans hp) rfl fun x => by
    have hnot : ¬ ((s.channel c).state ≠ .idle ∨ s.isReserved c = true) :=
      not_or.2 ⟨not_not.2 hidle, mt (isReserved_iff s c).1 hfree⟩
    simp only [configChannelOwner, hc, channelOfWord_natWord, setWindow_channel, isReserved_setWindow, if_neg hnot]
    rfl

end Channel

/-! ### The statement -/

/-- Settles O33: CONFIG_LINE by what the search for a refusal finds, CONFIG_CHANNEL by the one test of its owner. -/
theorem configLineAndChannel : Obligations.ConfigLineAndChannel := by
  intro w s hs
  refine ⟨fun k hk he => ⟨fun hfree => ?lineFree, fun n hn => ?lineBound, fun older newer q hunbound hq hline hfirst => ?lineClaimed⟩,
    fun c hc hp => ⟨fun hbusy => ?channelBusy, fun hidle hfree => ?channelFree⟩⟩
  case lineFree =>
    have hnext := exec_configLine_of_lineFree hs hk he (lineRefusal_of_not_lineTaken s hfree)
    rw [edgeSettingOfWord_of_le_three he] at hnext
    exact hnext
  case lineBound => exact exec_configLine_of_lineRefusal hs hk he (lineRefusal_of_bound s hn)
  case lineClaimed =>
    refine exec_configLine_of_lineRefusal hs hk he ?_
    rw [lineRefusal_of_unbound s hunbound, claimOnLine_of_split s hq hline hfirst, Option.map_some]
  case channelBusy => exact exec_configChannel_of_busy hs hc hp hbusy
  case channelFree =>
    have hnext := exec_configChannel_of_free hs hc hp hidle hfree
    rw [configOf_eq, ChannelConfig.words_eq] at hnext
    exact hnext

end Sys2Proof.Machine
end

section
/-! PROOFS. The waveform commands (chapter 8): their arguments at the port, the checks and the report they share, each command's
effect at the generator, and the statements about all of them but ARM_SINGLE.

Asynchronous elaboration is off, as in the tests: its many threads, each with its own memory, can exceed the check's memory limit. -/

set_option Elab.async false

namespace Sys2Proof.Machine

/-! ### The argument words at the port -/

section Port

variable (a : Args)

/-- R130, check 1: the number of a channel is in range. -/
theorem channelBad_eq_false {c : Fin 16} (hc : a[1] = natWord c.val) : channelBad a = false := by
  have hnumber : ∀ d : Fin 16, ¬ 15 < (natWord d.val).toNat := by decide
  simp [channelBad, hc, hnumber]

/-- The three modes have the codes 0 to 2, as the three safe levels have. -/
theorem modeOfWord_isNone (v : Word) : (modeOfWord v).isNone = decide (2 < v.toNat) := by
  rw [← safeLevelOfWord_isNone, modeOfWord, safeLevelOfWord]
  split_ifs <;> rfl

/-- R132: the owner's reading of the port check and the port's table agree. -/
theorem setModeBad_eq_badAtPort : setModeBad a = badAtPort 0x20 a := by
  have htable : badAtPort 0x20 a = decide (15 < a[1].toNat ∨ 2 < a[2].toNat ∨ (a[2] = 2 ∧ a[3].toNat < 2)) := rfl
  simp only [htable, setModeBad, channelBad, modeOfWord_isNone, Bool.decide_or, Bool.decide_and, Bool.or_assoc,
    Bool.beq_eq_decide_eq]

variable {a} {c : Fin 16} (hc : a[1] = natWord c.val)
include hc

/-- R132: a channel number, a mode, and for PERIODIC a period of 2 or more pass the port. -/
theorem setModeBad_eq_false {named : Mode} (hnamed : modeOfWord a[2] = some named) (hperiod : a[2] = 2 → 2 ≤ a[3].toNat) :
    setModeBad a = false := by
  simpa [setModeBad, channelBad_eq_false a hc, hnamed, Nat.lt_iff_add_one_le] using hperiod

theorem setLevelBad_eq_false (hvalue : a[2].toNat ≤ 1) : setLevelBad a = false := by
  simp [setLevelBad, channelBad_eq_false a hc, onOffOfWord_isNone, hvalue]

theorem forceBad_eq_false (hvalue : a[2].toNat ≤ 1) : forceBad a = false := setLevelBad_eq_false hc hvalue

theorem stagePeriodicBad_eq_false (hperiod : a[2] ≠ 1) : stagePeriodicBad a = false := by
  simpa [stagePeriodicBad, channelBad_eq_false a hc] using hperiod

end Port

/-! ### The checks that the waveform commands share (R130) -/

/-- R7: a handle that names a live lease of the master passes the three handle checks. -/
theorem onLease_of_holdsLive {s : State} {m : Fin 8} {h : Word} {n : Fin 64} (hlease : s.holdsLive m h n) (k : Fin 64 → Reply) :
    s.onLease m h true true k = k n := by
  obtain ⟨⟨rfl, hgeneration, hfree⟩, hlive, hholder⟩ := hlease
  have hlapsed : (s.lease (handleLease h)).state ≠ .lapsed := by rcases hlive with hstate | hstate <;> simp [hstate]
  exact onLease_of_pass s m k
    ((checkHandle_eq_none s m h true true).2 ⟨hfree, hgeneration.symm, fun _ => hholder, fun _ => hlapsed⟩)

section Owner

variable {s : State} {m : Fin 8} {n : Fin 64} {c : Fin 16} {a : Args} {modeCheck : Mode → Option ResultCode}
  {act : Fin 16 → State → State} (hlease : s.holdsLive m a[0] n) (hc : a[1] = natWord c.val)
include hlease hc

/-- R130, check 3. -/
theorem waveformOwner_of_outside (hout : (s.lease n).channels.getLsbD c.val = false) :
    waveformOwner m modeCheck act a s = answer s .wrongState [(s.channel c).state.code] := by
  simp only [waveformOwner, onLease_of_holdsLive hlease, hc, channelOfWord_natWord, hout, Bool.false_eq_true, if_false]

variable (hin : (s.lease n).channels.getLsbD c.val = true) {present : Mode} (hmode : (s.channel c).wave.mode = present)
include hin hmode

/-- R130, check 4. -/
theorem waveformOwner_of_modeRefused {code : ResultCode} (hcheck : modeCheck present = some code) :
    waveformOwner m modeCheck act a s = answer s code [present.code] := by
  simp only [waveformOwner, onLease_of_holdsLive hlease, hc, channelOfWord_natWord, hin, if_true, hmode, hcheck]

/-- R130, R131: every check passes. -/
theorem waveformOwner_of_taken (hcheck : modeCheck present = none) :
    waveformOwner m modeCheck act a s = answer (act c s) .ok ((act c s).waveformReport c) := by
  simp only [waveformOwner, onLease_of_holdsLive hlease, hc, channelOfWord_natWord, hin, if_true, hmode, hcheck]

end Owner

/-! ### The row of a waveform command

`howner` says of a command's owner which mode check and which effect it has on these arguments. -/

theorem waveformReport_setWindow (s : State) (m : Fin 8) (w : Fin 2) (x : Window) (c : Fin 16) :
    (s.setWindow m w x).waveformReport c = s.waveformReport c := rfl

section Row

variable {s : State} {m : Fin 8} {w : Fin 2} {n : Fin 64} {c : Fin 16} {word : Word} {bad : Args → Bool}
  {owner : Args → State → Reply} {modeCheck : Mode → Option ResultCode} {act : Fin 16 → State → State}
  (hs : s.canTake m w) (hlease : s.holdsLive m (s.args m w)[0] n) (hc : (s.args m w)[1] = natWord c.val)
  (hbad : bad (s.args m w) = false) (howner : ∀ t : State, owner (s.args m w) t = waveformOwner m modeCheck act (s.args m w) t)
include hs hlease hc hbad howner

theorem event_waveform_of_outside (hout : (s.lease n).channels.getLsbD c.val = false) :
    event (takeCommand m w word never bad owner) s = .next (s.finish m w word .wrongState [(s.channel c).state.code]) :=
  event_takeCommand_eq_finish word hs (.inl rfl) hbad rfl fun x =>
    (howner _).trans (waveformOwner_of_outside (s := s.setWindow m w x) hlease hc hout)

variable (hin : (s.lease n).channels.getLsbD c.val = true) {present : Mode} (hmode : (s.channel c).wave.mode = present)
include hin hmode

theorem event_waveform_of_modeRefused {code : ResultCode} (hcheck : modeCheck present = some code) :
    event (takeCommand m w word never bad owner) s = .next (s.finish m w word code [present.code]) :=
  event_takeCommand_eq_finish word hs (.inl rfl) hbad rfl fun x =>
    (howner _).trans (waveformOwner_of_modeRefused (s := s.setWindow m w x) hlease hc hin hmode hcheck)

/-- R131: the effect is made, and the report is taken after it. -/
theorem event_waveform_of_taken (hcheck : modeCheck present = none) {t : State} (hwindow : t.window m w = s.window m w)
    (hact : ∀ x : Window, act c (s.setWindow m w x) = t.setWindow m w x) :
    event (takeCommand m w word never bad owner) s = .next (t.finish m w word .ok (t.waveformReport c)) :=
  event_takeCommand_eq_finish word hs (.inl rfl) hbad hwindow fun x => by
    rw [howner, waveformOwner_of_taken (s := s.setWindow m w x) hlease hc hin hmode hcheck, hact, waveformReport_setWindow]

/-- A command whose effect stays within the waveform fields of its channel. -/
theorem event_waveform_of_waveChanged (hcheck : modeCheck present = none) {f : Waveform → Waveform}
    (hact : ∀ t : State, act c t = t.changeWave c f) {v : Waveform} (hv : f (s.channel c).wave = v) :
    event (takeCommand m w word never bad owner) s =
      let t := s.setChannel c { s.channel c with wave := v }
      .next (t.finish m w word .ok (t.waveformReport c)) := by
  subst hv
  exact event_waveform_of_taken hs hlease hc hbad howner hin hmode hcheck (t := s.changeWave c f) rfl fun x => hact _

end Row

/-! ### The effects at the generator -/

section Effects

variable {v : Waveform}

/-- R133: naming the present mode changes nothing. -/
theorem Waveform.setMode_self {named : Mode} (h : v.mode = named) (period width : Word) : v.setMode named period width = v := by
  cases named <;> simp only [Waveform.setMode, h]

theorem Waveform.setMode_level_of_single (h : v.mode = .single) (period width : Word) :
    v.setMode .level period width = { v with mode := .level, level := v.flipFlop, rise := none, fall := none } := by
  simp only [Waveform.setMode, h]

theorem Waveform.setMode_level_of_periodic (h : v.mode = .periodic) (period width : Word) :
    v.setMode .level period width =
      { v with mode := .level, level := v.flipFlop, period := 0, width := 0, staged := none, position := 0 } := by
  simp only [Waveform.setMode, h]

theorem Waveform.setMode_single_of_level (h : v.mode = .level) (period width : Word) :
    v.setMode .single period width = { v with mode := .single, level := false, rise := none, fall := none } := by
  simp only [Waveform.setMode, h]

theorem Waveform.setMode_periodic_of_level (h : v.mode = .level) (period width : Word) :
    v.setMode .periodic period width =
      { v with
        mode := .periodic, level := false, period := period, width := width, staged := none, position := 0
        flipFlop := decide (width ≠ 0) } := by
  simp only [Waveform.setMode, h, bne, Bool.beq_eq_decide_eq, decide_not]

theorem Waveform.force_of_level (h : v.mode = .level) (value : Bool) :
    v.force value = { v with level := value, flipFlop := value } := by
  simp only [Waveform.force, h]

theorem Waveform.force_of_single (h : v.mode = .single) (value : Bool) :
    v.force value = { v with flipFlop := value, rise := none, fall := none } := by
  simp only [Waveform.force, h]

/-- R141, steps 1 to 3, with no staged pair. -/
theorem Waveform.startPeriod_of_unstaged (h : v.staged = none) :
    v.startPeriod = { v with staged := none, position := 0, flipFlop := decide (v.width ≠ 0) } := by
  simp only [Waveform.startPeriod, h, Option.getD_none, bne, Bool.beq_eq_decide_eq, decide_not]

/-- R141, steps 1 to 3, with a staged pair. -/
theorem Waveform.startPeriod_of_staged {pair : Word × Word} (h : v.staged = some pair) :
    v.startPeriod =
      { v with period := pair.1, width := pair.2, staged := none, position := 0, flipFlop := decide (pair.2 ≠ 0) } := by
  simp only [Waveform.startPeriod, h, Option.getD_some, bne, Bool.beq_eq_decide_eq, decide_not]

/-- R141: a governed channel starts its period, and its lease hears of it if the option is ON. -/
theorem startPeriod_of_governing (s : State) {c : Fin 16} {n : Fin 64} (h : (s.channel c).governing = some n) :
    s.startPeriod c =
      let t := s.changeWave c Waveform.startPeriod
      if (s.lease n).boundaryNotices then t.raiseNotice n .boundary else t := by
  simp only [State.startPeriod, State.changeWave, h]

end Effects

/-! ### The rows of the commands -/

section Commands

variable {s : State} {m : Fin 8} {w : Fin 2} {n : Fin 64} {c : Fin 16} (hs : s.canTake m w)
  (hlease : s.holdsLive m (s.args m w)[0] n) (hc : (s.args m w)[1] = natWord c.val)
  (hin : (s.lease n).channels.getLsbD c.val = true)
include hs hlease hc hin

section SetMode

variable {present named : Mode} (hpresent : (s.channel c).wave.mode = present)
  (hnamed : modeOfWord (s.args m w)[2] = some named) (hperiod : (s.args m w)[2] = 2 → 2 ≤ (s.args m w)[3].toNat)
include hpresent hnamed hperiod

/-- R133. -/
theorem exec_setMode_of_taken (hpath : modePath named present = none) {v : Waveform}
    (hv : (s.channel c).wave.setMode named (s.args m w)[3] (s.args m w)[4] = v) :
    exec (.setMode m w) s =
      let t := s.setChannel c { s.channel c with wave := v }
      .next (t.finish m w 0x20 .ok (t.waveformReport c)) :=
  event_waveform_of_waveChanged (owner := setModeOwner m) (modeCheck := modePath named) hs hlease hc
    (setModeBad_eq_false hc hnamed hperiod) (fun _ => by rw [setModeOwner, hnamed, Option.getD_some]) hin hpresent hpath
    (fun _ => rfl) hv

/-- R132. -/
theorem exec_setMode_of_modePath (hpath : modePath named present = some .modePath) :
    exec (.setMode m w) s = .next (s.finish m w 0x20 .modePath [present.code]) :=
  event_waveform_of_modeRefused (owner := setModeOwner m) (modeCheck := modePath named) hs hlease hc
    (setModeBad_eq_false hc hnamed hperiod) (fun _ => by rw [setModeOwner, hnamed, Option.getD_some]) hin hpresent hpath

end SetMode

section Value

variable (hvalue : (s.args m w)[2].toNat ≤ 1)
include hvalue

/-- R134. -/
theorem exec_setLevel_of_level (hmode : (s.channel c).wave.mode = .level) :
    exec (.setLevel m w) s =
      let t := s.setChannel c { s.channel c with wave := (s.channel c).wave.setLevel (decide ((s.args m w)[2] = 1)) }
      .next (t.finish m w 0x21 .ok (t.waveformReport c)) :=
  event_waveform_of_waveChanged (owner := setLevelOwner m) (modeCheck := onlyIn .level) hs hlease hc
    (setLevelBad_eq_false hc hvalue) (fun _ => rfl) hin hmode rfl (fun _ => rfl) rfl

theorem exec_setLevel_of_not_level (hmode : (s.channel c).wave.mode ≠ .level) :
    exec (.setLevel m w) s = .next (s.finish m w 0x21 .wrongMode [(s.channel c).wave.mode.code]) :=
  event_waveform_of_modeRefused (owner := setLevelOwner m) (modeCheck := onlyIn .level) hs hlease hc
    (setLevelBad_eq_false hc hvalue) (fun _ => rfl) hin rfl (if_neg hmode)

/-- R142. -/
theorem exec_force_of_not_periodic (hmode : (s.channel c).wave.mode ≠ .periodic) {v : Waveform}
    (hv : (s.channel c).wave.force (decide ((s.args m w)[2] = 1)) = v) :
    exec (.force m w) s =
      let t := s.setChannel c { s.channel c with wave := v }
      .next (t.finish m w 0x25 .ok (t.waveformReport c)) :=
  event_waveform_of_waveChanged (owner := forceOwner m) (modeCheck := forceMode) hs hlease hc
    (forceBad_eq_false hc hvalue) (fun _ => rfl) hin rfl (if_neg hmode) (fun _ => rfl) hv

theorem exec_force_of_periodic (hmode : (s.channel c).wave.mode = .periodic) :
    exec (.force m w) s = .next (s.finish m w 0x25 .wrongMode [Mode.code .periodic]) :=
  event_waveform_of_modeRefused (owner := forceOwner m) (modeCheck := forceMode) hs hlease hc
    (forceBad_eq_false hc hvalue) (fun _ => rfl) hin hmode rfl

end Value

/-- R140. -/
theorem exec_stagePeriodic_of_periodic (hperiod : (s.args m w)[2] ≠ 1) (hmode : (s.channel c).wave.mode = .periodic) :
    exec (.stagePeriodic m w) s =
      let t := s.setChannel c { s.channel c with
        wave := { (s.channel c).wave with staged := stagedPair (s.args m w)[2] (s.args m w)[3] } }
      .next (t.finish m w 0x23 .ok (t.waveformReport c)) :=
  event_waveform_of_waveChanged (owner := stagePeriodicOwner m) (modeCheck := onlyIn .periodic) hs hlease hc
    (stagePeriodicBad_eq_false hc hperiod) (fun _ => rfl) hin hmode rfl (fun _ => rfl) rfl

theorem exec_stagePeriodic_of_not_periodic (hperiod : (s.args m w)[2] ≠ 1) (hmode : (s.channel c).wave.mode ≠ .periodic) :
    exec (.stagePeriodic m w) s = .next (s.finish m w 0x23 .wrongMode [(s.channel c).wave.mode.code]) :=
  event_waveform_of_modeRefused (owner := stagePeriodicOwner m) (modeCheck := onlyIn .periodic) hs hlease hc
    (stagePeriodicBad_eq_false hc hperiod) (fun _ => rfl) hin rfl (if_neg hmode)

/-- R141: BOUNDARY is raised or not by the lease's option; the notice changes nothing that the report shows. -/
theorem exec_restartPeriodic_of_periodic (hgoverning : (s.channel c).governing = some n)
    (hmode : (s.channel c).wave.mode = .periodic) {v : Waveform} (hv : (s.channel c).wave.startPeriod = v) :
    exec (.restartPeriodic m w) s =
      let t := s.setChannel c { s.channel c with wave := v }
      let u := if (s.lease n).boundaryNotices then t.raiseNotice n .boundary else t
      .next (u.finish m w 0x24 .ok (t.waveformReport c)) := by
  subst hv
  have hnext (t : State) := event_waveform_of_taken (owner := restartPeriodicOwner m) (modeCheck := onlyIn .periodic) (t := t)
    (word := 0x24) hs hlease hc (channelBad_eq_false _ hc) (fun _ => rfl) hin hmode rfl
  cases hnotices : (s.lease n).boundaryNotices with
  | true =>
    exact hnext ((s.changeWave c Waveform.startPeriod).raiseNotice n .boundary) rfl fun x =>
      (startPeriod_of_governing (s.setWindow m w x) hgoverning).trans (if_pos hnotices)
  | false =>
    exact hnext (s.changeWave c Waveform.startPeriod) rfl fun x =>
      (startPeriod_of_governing (s.setWindow m w x) hgoverning).trans (if_neg (ne_true_of_eq_false hnotices))

theorem exec_restartPeriodic_of_not_periodic (hmode : (s.channel c).wave.mode ≠ .periodic) :
    exec (.restartPeriodic m w) s = .next (s.finish m w 0x24 .wrongMode [(s.channel c).wave.mode.code]) :=
  event_waveform_of_modeRefused (owner := restartPeriodicOwner m) (modeCheck := onlyIn .periodic) hs hlease hc
    (channelBad_eq_false _ hc) (fun _ => rfl) hin rfl (if_neg hmode)

end Commands

/-! ### The statements -/

/-- Settles O27: SET_MODE row by row of the table of R133, SET_LEVEL and FORCE by the present mode. -/
theorem modeLevelAndForce : Obligations.ModeLevelAndForce := by
  intro m w n c s hs hlease hc
  refine ⟨fun hout => ⟨fun hbad => ?setModeOutside, fun hvalue => ⟨?setLevelOutside, ?forceOutside⟩⟩,
    fun hin => ⟨fun hlevel => ?toLevel, fun hsingle => ?toSingle, fun hperiodic hlong => ?toPeriodic,
      fun hvalue => ⟨?setLevel, ?force⟩⟩⟩
  case setModeOutside =>
    exact event_waveform_of_outside (owner := setModeOwner m) hs hlease hc ((setModeBad_eq_badAtPort _).trans hbad)
      (fun _ => by rw [setModeOwner]) hout
  case setLevelOutside => exact event_waveform_of_outside hs hlease hc (setLevelBad_eq_false hc hvalue) (fun _ => rfl) hout
  case forceOutside => exact event_waveform_of_outside hs hlease hc (forceBad_eq_false hc hvalue) (fun _ => rfl) hout
  case toLevel =>
    have hnamed : modeOfWord (s.args m w)[2] = some .level := by rw [hlevel]; rfl
    have hperiod : (s.args m w)[2] = 2 → 2 ≤ (s.args m w)[3].toNat := by simp [hlevel]
    cases hmode : (s.channel c).wave.mode with
    | level => exact exec_setMode_of_taken hs hlease hc hin hmode hnamed hperiod rfl (Waveform.setMode_self hmode ..)
    | single => exact exec_setMode_of_taken hs hlease hc hin hmode hnamed hperiod rfl (Waveform.setMode_level_of_single hmode ..)
    | periodic =>
      exact exec_setMode_of_taken hs hlease hc hin hmode hnamed hperiod rfl (Waveform.setMode_level_of_periodic hmode ..)
  case toSingle =>
    have hnamed : modeOfWord (s.args m w)[2] = some .single := by rw [hsingle]; rfl
    have hperiod : (s.args m w)[2] = 2 → 2 ≤ (s.args m w)[3].toNat := by simp [hsingle]
    cases hmode : (s.channel c).wave.mode with
    | level => exact exec_setMode_of_taken hs hlease hc hin hmode hnamed hperiod rfl (Waveform.setMode_single_of_level hmode ..)
    | single => exact exec_setMode_of_taken hs hlease hc hin hmode hnamed hperiod rfl (Waveform.setMode_self hmode ..)
    | periodic => exact exec_setMode_of_modePath hs hlease hc hin hmode hnamed hperiod rfl
  case toPeriodic =>
    have hnamed : modeOfWord (s.args m w)[2] = some .periodic := by rw [hperiodic]; rfl
    have hperiod : (s.args m w)[2] = 2 → 2 ≤ (s.args m w)[3].toNat := fun _ => hlong
    cases hmode : (s.channel c).wave.mode with
    | level => exact exec_setMode_of_taken hs hlease hc hin hmode hnamed hperiod rfl (Waveform.setMode_periodic_of_level hmode ..)
    | single => exact exec_setMode_of_modePath hs hlease hc hin hmode hnamed hperiod rfl
    | periodic => exact exec_setMode_of_taken hs hlease hc hin hmode hnamed hperiod rfl (Waveform.setMode_self hmode ..)
  case setLevel =>
    split
    next hlevel => exact exec_setLevel_of_level hs hlease hc hin hvalue hlevel
    next hother => exact exec_setLevel_of_not_level hs hlease hc hin hvalue hother
  case force =>
    split
    next hlevel =>
      exact exec_force_of_not_periodic hs hlease hc hin hvalue (by simp [hlevel]) (Waveform.force_of_level hlevel _)
    next hsingle =>
      exact exec_force_of_not_periodic hs hlease hc hin hvalue (by simp [hsingle]) (Waveform.force_of_single hsingle _)
    next hperiodic => exact exec_force_of_periodic hs hlease hc hin hvalue hperiodic

/-- Settles O29: both commands by the present mode, RESTART_PERIODIC also by the staged pair that the new period takes. -/
theorem stageAndRestartPeriodic : Obligations.StageAndRestartPeriodic := by
  intro m w n c s hs hlease hc hin hgoverning
  refine ⟨fun hmode => ⟨fun hperiod => ?stageRefused, ?restartRefused⟩, fun hmode => ⟨fun hperiod => ?stage, ?restart⟩⟩
  case stageRefused => exact exec_stagePeriodic_of_not_periodic hs hlease hc hin hperiod hmode
  case restartRefused => exact exec_restartPeriodic_of_not_periodic hs hlease hc hin hmode
  case stage => exact exec_stagePeriodic_of_periodic hs hlease hc hin hperiod hmode
  case restart =>
    cases hstaged : (s.channel c).wave.staged with
    | none =>
      exact exec_restartPeriodic_of_periodic hs hlease hc hin hgoverning hmode (Waveform.startPeriod_of_unstaged hstaged)
    | some pair =>
      exact exec_restartPeriodic_of_periodic hs hlease hc hin hgoverning hmode (Waveform.startPeriod_of_staged hstaged)

end Sys2Proof.Machine
end

section
/-! PROOFS. The acknowledgements (R150 to R152): what the owners of ACK_NOTICES and ACK_DEVICE answer, and the statement about both. -/

namespace Sys2Proof.Machine

variable {s : State} {m : Fin 8} {w : Fin 2}

/-! ### ACK_NOTICES -/

/-- R151: a kinds word that names only the six kinds passes the port. -/
theorem ackNoticesBad_eq_false {a : Args} (h : a[1].toNat ≤ 63) : ackNoticesBad a = false := by
  have hnone : a[1].extractLsb' 6 10 = 0 := BitVec.eq_of_toNat_eq (by
    rw [BitVec.extractLsb'_toNat, Nat.shiftRight_eq_div_pow, Nat.div_eq_of_lt (by omega)]
    rfl)
  rw [ackNoticesBad, hnone]
  rfl

/-- R7: a handle that names a record held by the master passes the checks that do not ask for a live lease. -/
theorem onLease_of_names {h : Word} {n : Fin 64} (hnames : s.names h n) (hholder : (s.lease n).holder = some m)
    (k : Fin 64 → Reply) : s.onLease m h true false k = k n := by
  obtain ⟨rfl, hgeneration, hfree⟩ := hnames
  exact onLease_of_pass s m k
    ((checkHandle_eq_none s m h true false).2 ⟨hfree, hgeneration.symm, fun _ => hholder, fun h => nomatch h⟩)

section Owner

variable {a : Args} {n : Fin 64} (hnames : s.names a[0] n) (hholder : (s.lease n).holder = some m)
include hnames hholder

/-- R151, R152: the count seen is the present one. -/
theorem ackNoticesOwner_of_count_eq (hcount : (s.lease n).noticeCount = a[2]) :
    ackNoticesOwner m a s =
      let kept : KindSet := (s.lease n).notices &&& ~~~ a[1].setWidth 6
      answer (s.setLease n { s.lease n with notices := kept }) .ok [kept.setWidth 16, (s.lease n).noticeCount] := by
  rw [ackNoticesOwner, onLease_of_names hnames hholder, if_pos hcount, BitVec.setWidth_eq_extractLsb' (by decide)]
  rfl

/-- R151: notices were raised since the master read the count. -/
theorem ackNoticesOwner_of_count_ne (hcount : (s.lease n).noticeCount ≠ a[2]) :
    ackNoticesOwner m a s = answer s .staleNotice [(s.lease n).notices.setWidth 16, (s.lease n).noticeCount] := by
  rw [ackNoticesOwner, onLease_of_names hnames hholder, if_neg hcount]
  rfl

end Owner

section Row

variable {n : Fin 64} (hs : s.canTake m w) (hnames : s.names (s.args m w)[0] n) (hholder : (s.lease n).holder = some m)
  (hkinds : (s.args m w)[1].toNat ≤ 63)
include hs hnames hholder hkinds

theorem exec_ackNotices_of_count_eq (hcount : (s.lease n).noticeCount = (s.args m w)[2]) :
    exec (.ackNotices m w) s =
      let kept : KindSet := (s.lease n).notices &&& ~~~ (s.args m w)[1].setWidth 6
      .next ((s.setLease n { s.lease n with notices := kept }).finish m w 0x41 .ok [kept.setWidth 16, (s.lease n).noticeCount]) :=
  event_takeCommand_eq_finish 0x41 hs (.inl rfl) (ackNoticesBad_eq_false hkinds) rfl fun x =>
    ackNoticesOwner_of_count_eq (s := s.setWindow m w x) hnames hholder hcount

theorem exec_ackNotices_of_count_ne (hcount : (s.lease n).noticeCount ≠ (s.args m w)[2]) :
    exec (.ackNotices m w) s =
      .next (s.finish m w 0x41 .staleNotice [(s.lease n).notices.setWidth 16, (s.lease n).noticeCount]) :=
  event_takeCommand_eq_finish 0x41 hs (.inl rfl) (ackNoticesBad_eq_false hkinds) rfl fun x =>
    ackNoticesOwner_of_count_ne (s := s.setWindow m w x) hnames hholder hcount

end Row

/-! ### ACK_DEVICE -/

theorem DeviceNotice.code_eq (d : DeviceNotice) : d.code = if d = .none then 0 else 1 := by
  cases d <;> rfl

/-- R150: reserved to master 0 (R167), whose command clears the device notice and reports what it was. -/
theorem exec_ackDevice_of_supervisor (hs : s.canTake 0 w) :
    exec (.ackDevice 0 w) s =
      .next ({ s with deviceNotice := DeviceNotice.none }.finish 0 w 0x42 .ok [s.deviceNotice.code]) :=
  event_takeCommand_eq_finish 0x42 hs (.inr rfl) rfl rfl fun _ => rfl

/-! ### The statement -/

/-- Settles O31: ACK_NOTICES by whether the count seen is the present one, ACK_DEVICE by the code of the notice it clears. -/
theorem acknowledgeNotices : Obligations.AcknowledgeNotices := by
  intro m w s hs
  refine ⟨fun n hnames hholder hkinds => ⟨fun hcount => ?present, fun hcount => ?stale⟩, fun hm => ?device⟩
  case present => exact exec_ackNotices_of_count_eq hs hnames hholder hkinds hcount
  case stale => exact exec_ackNotices_of_count_ne hs hnames hholder hkinds hcount
  case device =>
    subst hm
    rw [← DeviceNotice.code_eq]
    exact exec_ackDevice_of_supervisor hs

end Sys2Proof.Machine
end

section
/-! PROOFS. Presentation (R154 to R156): each item's urgency as a candidate, the candidates as the items that have one, what the
search for the first of the highest urgency finds, and the statement about the presented item and the INT pin. -/

namespace Sys2Proof.Machine

variable {s : State} {m : Fin 8}

/-! ### The items in their tie order (R155) -/

/-- R155: the place of an item in the tie order. -/
def Item.place : Item → Nat
  | .device => 0
  | .window v => 1 + v.val
  | .lease n => 3 + n.val

@[simp] theorem Item.place_device : Item.device.place = 0 := rfl
@[simp] theorem Item.place_window (v : Fin 2) : (Item.window v).place = 1 + v.val := rfl
@[simp] theorem Item.place_lease (n : Fin 64) : (Item.lease n).place = 3 + n.val := rfl

/-- The places of the three kinds lie apart: 0, 1 and 2, and from 3 on. -/
theorem Item.place_injective : Function.Injective Item.place := by
  intro x y h
  cases x <;> cases y <;>
    simp only [Item.place_device, Item.place_window, Item.place_lease, Item.window.injEq, Item.lease.injEq, reduceCtorEq,
      Fin.ext_iff] at h ⊢ <;>
    omega

/-- Every item there is, by its place. -/
def itemsInOrder : List Item := .device :: .window 0 :: .window 1 :: (List.finRange 64).map .lease

theorem mem_itemsInOrder (x : Item) : x ∈ itemsInOrder := by
  cases x with
  | device => simp [itemsInOrder]
  | window v => fin_cases v <;> simp [itemsInOrder]
  | lease n => simp [itemsInOrder]

theorem itemsInOrder_pairwise : itemsInOrder.Pairwise fun x y => x.place < y.place := by
  have hleases : ((List.finRange 64).map Item.lease).Pairwise fun x y => x.place < y.place :=
    List.pairwise_map.2 ((List.pairwise_lt_finRange 64).imp fun h => Nat.add_lt_add_left h 3)
  simp [itemsInOrder, hleases, Nat.lt_add_right]

/-! ### The candidates (R154) -/

/-- R154: the urgency of an item that is a candidate of master `m`. -/
def State.itemUrgency (s : State) (m : Fin 8) : Item → Option Nat
  | .device => if m = 0 ∧ s.deviceNotice = .baseBStalled then some 7 else none
  | .window v =>
    if (s.window m v).completionPending = true ∧ (s.master m).completionUrgency ≠ 0 then
      some (s.master m).completionUrgency.toNat
    else none
  | .lease n =>
    if (s.lease n).state ≠ .free ∧ (s.lease n).holder = some m ∧ (s.lease n).notices ≠ 0 ∧ (s.lease n).urgency ≠ 0 then
      some (s.lease n).urgency.toNat
    else none

/-- The entry of an item in the list of candidates. -/
def State.candidateEntry (s : State) (m : Fin 8) (x : Item) : Option (Item × Nat) :=
  (s.itemUrgency m x).map fun u => (x, u)

theorem windowCandidate_iff (v : Fin 2) :
    s.windowCandidate m v = true ↔ (s.window m v).completionPending = true ∧ (s.master m).completionUrgency ≠ 0 := by
  simp [State.windowCandidate]

theorem leaseCandidate_iff (n : Fin 64) :
    s.leaseCandidate m n = true ↔
      (s.lease n).state ≠ .free ∧ (s.lease n).holder = some m ∧ (s.lease n).notices ≠ 0 ∧ (s.lease n).urgency ≠ 0 := by
  simp [State.leaseCandidate, and_assoc]

theorem candidateEntry_eq_some {x : Item} {c : Item × Nat} :
    s.candidateEntry m x = some c ↔ x = c.1 ∧ s.itemUrgency m x = some c.2 := by
  obtain ⟨y, u⟩ := c
  simp [State.candidateEntry, and_comm]

/-- The candidates are the items that have an urgency, in the tie order. -/
theorem candidates_eq_filterMap : s.candidates m = itemsInOrder.filterMap (s.candidateEntry m) := by
  have hleases (l : List (Fin 64)) :
      (l.filter fun n => s.leaseCandidate m n).map (fun n => (Item.lease n, (s.lease n).urgency.toNat)) =
        (l.map Item.lease).filterMap (s.candidateEntry m) := by
    induction l with
    | nil => rfl
    | cons n l ih =>
      simp only [List.filter_cons, leaseCandidate_iff, List.map_cons, List.filterMap_cons, State.candidateEntry,
        State.itemUrgency] at ih ⊢
      split_ifs <;> simp [ih]
  simp only [State.candidates, hleases, windowCandidate_iff, itemsInOrder, List.filterMap_cons, State.candidateEntry,
    State.itemUrgency]
  split_ifs <;> rfl

theorem mem_candidates {x : Item} {u : Nat} : (x, u) ∈ s.candidates m ↔ s.itemUrgency m x = some u := by
  simp [candidates_eq_filterMap, List.mem_filterMap, candidateEntry_eq_some, mem_itemsInOrder]

theorem candidates_eq_nil : s.candidates m = [] ↔ ∀ x : Item, s.itemUrgency m x = none := by
  simp [candidates_eq_filterMap, mem_itemsInOrder, State.candidateEntry]

theorem candidates_pairwise : (s.candidates m).Pairwise fun c d => c.1.place < d.1.place := by
  rw [candidates_eq_filterMap]
  refine itemsInOrder_pairwise.filterMap _ fun x y hplace c hc d hd => ?_
  rw [← (candidateEntry_eq_some.1 hc).1, ← (candidateEntry_eq_some.1 hd).1]
  exact hplace

/-! ### The first of the highest urgency (R155) -/

/-- R155: `c` comes before `d`, or is `d`: it has the higher urgency, or the same and no later place. -/
def outranks (c d : Item × Nat) : Prop := d.2 < c.2 ∨ (d.2 = c.2 ∧ c.1.place ≤ d.1.place)

theorem outranks_trans {c d e : Item × Nat} (hcd : outranks c d) (hde : outranks d e) : outranks c e := by
  unfold outranks at *
  omega

theorem outranks_antisymm {c d : Item × Nat} (hcd : outranks c d) (hdc : outranks d c) : c = d := by
  unfold outranks at *
  exact Prod.ext (Item.place_injective (by omega)) (by omega)

theorem firstHighest_eq_none {l : List (Item × Nat)} : firstHighest l = none ↔ l = [] := by
  cases l with
  | nil => simp [firstHighest]
  | cons c l =>
    simp only [firstHighest, reduceCtorEq, iff_false]
    cases firstHighest l with
    | none => simp
    | some d => dsimp only; split_ifs <;> simp

theorem firstHighest_outranks {l : List (Item × Nat)} (hl : l.Pairwise fun c d => c.1.place < d.1.place) {c : Item × Nat}
    (h : firstHighest l = some c) : c ∈ l ∧ ∀ d ∈ l, outranks c d := by
  induction l generalizing c with
  | nil => simp [firstHighest] at h
  | cons e l ih =>
    obtain ⟨hfirst, hl⟩ := List.pairwise_cons.1 hl
    have hself (d : Item × Nat) : outranks d d := .inr ⟨rfl, le_rfl⟩
    cases hrest : firstHighest l with
    | none =>
      obtain rfl : l = [] := firstHighest_eq_none.1 hrest
      obtain rfl : e = c := by simpa [firstHighest] using h
      simpa using hself e
    | some best =>
      obtain ⟨hmem, hbest⟩ := ih hl hrest
      simp only [firstHighest, hrest] at h
      split_ifs at h with hlt <;> obtain rfl := Option.some.inj h
      · exact ⟨.tail _ hmem, List.forall_mem_cons.2 ⟨.inl hlt, hbest⟩⟩
      · have hkeeps : outranks e best := by
          have := hfirst best hmem
          unfold outranks
          omega
        exact ⟨.head _, List.forall_mem_cons.2 ⟨hself e, fun d hd => outranks_trans hkeeps (hbest d hd)⟩⟩

theorem firstHighest_eq_some {l : List (Item × Nat)} (hl : l.Pairwise fun c d => c.1.place < d.1.place) {c : Item × Nat} :
    firstHighest l = some c ↔ c ∈ l ∧ ∀ d ∈ l, outranks c d := by
  refine ⟨firstHighest_outranks hl, fun ⟨hmem, hc⟩ => ?_⟩
  cases hfirst : firstHighest l with
  | none =>
    rw [firstHighest_eq_none.1 hfirst] at hmem
    exact absurd hmem List.not_mem_nil
  | some best =>
    obtain ⟨hbestMem, hbest⟩ := firstHighest_outranks hl hfirst
    rw [outranks_antisymm (hbest c hmem) (hc best hbestMem)]

/-! ### The presented item and the INT pin (R155, R156) -/

theorem presented_eq_none : s.presented m = none ↔ ∀ x : Item, s.itemUrgency m x = none :=
  firstHighest_eq_none.trans candidates_eq_nil

theorem presented_eq_some {x : Item} {u : Nat} :
    s.presented m = some (x, u) ↔
      s.itemUrgency m x = some u ∧ ∀ (y : Item) (v : Nat), s.itemUrgency m y = some v → outranks (x, u) (y, v) := by
  rw [State.presented, firstHighest_eq_some candidates_pairwise]
  simp only [Prod.forall, mem_candidates]

/-- R156: outside reset (R177) the pin shows whether the enabled interrupt has a candidate to stand for. -/
theorem intPin_eq_true (hreset : s.resetAsserted = false) :
    s.intPin m = true ↔ (s.master m).interruptEnable = true ∧ ∃ (x : Item) (u : Nat), s.itemUrgency m x = some u := by
  have hsome : ¬ s.candidates m = [] ↔ ∃ (x : Item) (u : Nat), s.itemUrgency m x = some u := by
    simp only [candidates_eq_nil, not_forall, ← ne_eq, Option.ne_none_iff_exists']
  rw [← hsome]
  simp [State.intPin, hreset]

/-- Settles O37: the four parts are those of `itemUrgency`, `outranks` and `place`, which the statement writes out. -/
theorem presentedItemAndInterruptLine : Obligations.PresentedItemAndInterruptLine := by
  intro m s hreset
  refine ⟨fun x u => ?candidate, ?noItem, fun x u => ?item, ?pin⟩
  case candidate => exact mem_candidates
  case noItem => exact presented_eq_none
  case item => exact presented_eq_some
  case pin => exact intPin_eq_true hreset

end Sys2Proof.Machine
end

section
/-! PROOFS. The window controls (R164 to R166): claims that leave the queue with the window they wait in, what each control does in
each state of its window, and the statement about the three. -/

namespace Sys2Proof.Machine

variable {s : State} {m : Fin 8} {w : Fin 2}

/-! ### Claims that leave the queue -/

theorem any_isIn_iff : (s.claims.any fun q => q.isIn m w) = true ↔ ∃ q ∈ s.claims, q.master = m ∧ q.window = w := by
  simp only [List.any_eq_true, claim_isIn_iff]

theorem removeClaims_isIn_of_no_claim (h : ∀ q ∈ s.claims, ¬ (q.master = m ∧ q.window = w)) :
    (s.removeClaims fun q => q.isIn m w) = s := by
  have hkept : (s.claims.filter fun q => !q.isIn m w) = s.claims :=
    List.filter_eq_self.2 fun q hq => by simpa using (claim_isIn_iff q m w).not.2 (h q hq)
  simp only [State.removeClaims, hkept]

theorem removeClaims_isIn_length_lt (h : ∃ q ∈ s.claims, q.master = m ∧ q.window = w) :
    (s.removeClaims fun q => q.isIn m w).claims.length < s.claims.length := by
  obtain ⟨q, hq, hin⟩ := h
  exact List.length_filter_lt_length_iff_exists.2 ⟨q, hq, by simp [(claim_isIn_iff q m w).2 hin]⟩

/-- When the claim that waits in a window ends, that window alone completes. -/
theorem endClaims_isIn (code : ResultCode) (h : ∃ q ∈ s.claims, q.master = m ∧ q.window = w) :
    s.endClaims (fun q => q.isIn m w) code =
      (s.removeClaims fun q => q.isIn m w).setWindow m w ((s.window m w).completeLate code []) := by
  apply State.ext_records
  case hw =>
    intro k v
    rw [endClaims_window, setWindow_window]
    by_cases hkv : k = m ∧ v = w
    · obtain ⟨rfl, rfl⟩ := hkv
      have hany : (s.claims.any fun q => q.isIn k v && q.isIn k v) = true := by simpa only [Bool.and_self] using any_isIn_iff.2 h
      rw [if_pos hany, if_pos ⟨rfl, rfl⟩]
    · have hnone : ¬ (s.claims.any fun q => q.isIn m w && q.isIn k v) = true := by
        simp only [List.any_eq_true, Bool.and_eq_true, claim_isIn_iff]
        rintro ⟨q, _, ⟨hm, hw⟩, hk, hv⟩
        exact hkv ⟨hk.symm.trans hm, hv.symm.trans hw⟩
      rw [if_neg hnone, if_neg hkv]
      rfl
  all_goals intros; rfl

/-! ### The scan after a control (R54) -/

theorem closeEvent_of_claims_fewer {t : State} (h : t.claims.length < s.claims.length) : closeEvent s t = t.scan :=
  if_pos ((scanTriggered_iff s t).2 (.inr (.inr (.inr h))))

/-- A trigger is read from channels, leases, masters and claims, so a window that changes brings none. -/
theorem closeEvent_setWindow (x : Window) : closeEvent s (s.setWindow m w x) = s.setWindow m w x := by
  have hquiet : ¬ scanTriggered s (s.setWindow m w x) = true := by simp [scanTriggered_iff]
  exact if_neg hquiet

/-! ### ABORT (R164, R59, R89) -/

theorem abortControl_of_not_busy (h : (s.window m w).state ≠ .busy) :
    abortControl m w s = s.setWindow m w (s.window m w).refuseAbort := if_neg h

theorem abortControl_of_claim (hbusy : (s.window m w).state = .busy) (h : ∃ q ∈ s.claims, q.master = m ∧ q.window = w) :
    abortControl m w s =
      ((s.removeClaims fun q => q.isIn m w).setWindow m w ((s.window m w).completeLate .aborted [])).scan := by
  calc abortControl m w s
      _ = closeEvent s (s.endClaims (fun q => q.isIn m w) .aborted) := (if_pos hbusy).trans (if_pos (any_isIn_iff.2 h))
      _ = closeEvent s ((s.removeClaims fun q => q.isIn m w).setWindow m w ((s.window m w).completeLate .aborted [])) := by
        rw [endClaims_isIn .aborted h]
      _ = _ := closeEvent_of_claims_fewer (removeClaims_isIn_length_lt h)

theorem abortControl_of_drain (hbusy : (s.window m w).state = .busy) (hnone : ∀ q ∈ s.claims, ¬ (q.master = m ∧ q.window = w))
    (hdrain : (s.window m w).drainSet ≠ 0) :
    abortControl m w s = s.setWindow m w ((s.window m w).completeLate .aborted [(s.window m w).drainSet]) := by
  have hany : ¬ (s.claims.any fun q => q.isIn m w) = true := any_isIn_iff.not.2 fun ⟨q, hq, hin⟩ => hnone q hq hin
  exact ((if_pos hbusy).trans (if_neg hany)).trans (if_pos hdrain)

/-! ### RESULT_TAKEN (R165) -/

theorem Window.resultTaken_of_done {x : Window} (h : x.state = .done) :
    x.resultTaken =
      { x with
        state := .idle, code := none, words := Vector.replicate 12 0, collision := false, abortNotTaken := false
        completionPending := false } := by
  simp only [Window.resultTaken, h, resultWords_nil]

theorem Window.resultTaken_of_busy {x : Window} (h : x.state = .busy) : x.resultTaken = x.collide := by
  simp only [Window.resultTaken, h]

theorem Window.resultTaken_of_idle {x : Window} (h : x.state = .idle) :
    x.resultTaken = { x with collision := false, abortNotTaken := false } := by
  simp only [Window.resultTaken, h]

/-! ### WINDOW_RESET (R166, R62) -/

/-- R158: every window is at rest after reset. -/
theorem reset_window (m : Fin 8) (w : Fin 2) : State.reset.window m w = .rest := by
  simp [State.window, State.reset]

theorem windowResetControl_of_no_claim (h : ∀ q ∈ s.claims, ¬ (q.master = m ∧ q.window = w)) :
    windowResetControl m w s = s.setWindow m w .rest := by
  rw [windowResetControl, removeClaims_isIn_of_no_claim h, closeEvent_setWindow]

theorem windowResetControl_of_claim (h : ∃ q ∈ s.claims, q.master = m ∧ q.window = w) :
    windowResetControl m w s = ((s.removeClaims fun q => q.isIn m w).setWindow m w .rest).scan :=
  closeEvent_of_claims_fewer (removeClaims_isIn_length_lt h)

/-! ### The statement -/

/-- Settles O7: on a settled state each row is its control alone, and each clause is that control's equation in one state of the
window. -/
theorem windowControls : Obligations.WindowControls := by
  intro m w s hs
  simp only [exec_abort, exec_resultTaken, exec_windowReset, event_of_settled s _ hs, resultTakenControl, reset_window]
  refine ⟨fun hfree => ?abortRefused, fun hbusy hclaim => ?abortClaim, fun hbusy hnone hdrain => ?abortDrain, fun hdone => ?takenDone,
    fun hbusy => ?takenBusy, fun hidle => ?takenIdle, fun hnone => ?resetAlone, fun hclaim => ?resetClaim⟩ <;> refine congrArg _ ?_
  case abortRefused => exact abortControl_of_not_busy hfree
  case abortClaim => exact abortControl_of_claim hbusy hclaim
  case abortDrain => exact abortControl_of_drain hbusy hnone hdrain
  case takenDone => rw [Window.resultTaken_of_done hdone]
  case takenBusy => rw [Window.resultTaken_of_busy hbusy]; rfl
  case takenIdle => rw [Window.resultTaken_of_idle hidle]
  case resetAlone => exact windowResetControl_of_no_claim hnone
  case resetClaim => exact windowResetControl_of_claim hclaim

end Sys2Proof.Machine
end

section
/-! PROOFS. What the operations on leases, channels, lines, offers and queues read as afterwards: for each, one lemma with all that it
keeps, and one for each table that it changes. -/

namespace Sys2Proof.Machine

variable (s : State)

/-! ### The present value of a base -/

@[simp] theorem setWindow_now (m : Fin 8) (w : Fin 2) (x : Window) (base : Base) : (s.setWindow m w x).now base = s.now base := by cases base <;> rfl
@[simp] theorem setMaster_now (m : Fin 8) (x : Master) (base : Base) : (s.setMaster m x).now base = s.now base := by cases base <;> rfl
@[simp] theorem setLease_now (n : Fin 64) (x : Lease) (base : Base) : (s.setLease n x).now base = s.now base := by cases base <;> rfl
@[simp] theorem setOfferList_now (m : Fin 8) (x : List (Fin 64)) (base : Base) : (s.setOfferList m x).now base = s.now base := by cases base <;> rfl
@[simp] theorem setChannel_now (c : Fin 16) (x : Channel) (base : Base) : (s.setChannel c x).now base = s.now base := by cases base <;> rfl
@[simp] theorem setLine_now (k : Fin 8) (x : Line) (base : Base) : (s.setLine k x).now base = s.now base := by cases base <;> rfl
@[simp] theorem mapWindows_now (f : Fin 8 → Fin 2 → Window → Window) (base : Base) : (s.mapWindows f).now base = s.now base := by cases base <;> rfl
@[simp] theorem mapChannels_now (f : Fin 16 → Channel → Channel) (base : Base) : (s.mapChannels f).now base = s.now base := by cases base <;> rfl
@[simp] theorem setExpiryQueue_now (base base' : Base) (q : List (Fin 64)) :
    (s.setExpiryQueue base q).now base' = s.now base' := by cases base <;> cases base' <;> rfl

/-! ### Updates of a record that may not be named -/

@[simp] theorem unbindLine_keeps (j : Option (Fin 8)) :
    (∀ m w, (s.unbindLine j).window m w = s.window m w) ∧ (∀ m, (s.unbindLine j).master m = s.master m)
    ∧ (∀ n, (s.unbindLine j).lease n = s.lease n) ∧ (∀ m, (s.unbindLine j).offerList m = s.offerList m)
    ∧ (∀ c, (s.unbindLine j).channel c = s.channel c) ∧ (s.unbindLine j).claims = s.claims
    ∧ (s.unbindLine j).baseA = s.baseA ∧ (s.unbindLine j).baseB = s.baseB ∧ (s.unbindLine j).deviceNotice = s.deviceNotice
    ∧ (s.unbindLine j).freeze = s.freeze ∧ (∀ base', (s.unbindLine j).now base' = s.now base')
    ∧ (∀ base', (s.unbindLine j).expiryQueue base' = s.expiryQueue base') := by
  cases j <;> simp [State.unbindLine]

@[simp] theorem bindLine_keeps (j : Option (Fin 8)) (n : Fin 64) :
    (∀ m w, (s.bindLine j n).window m w = s.window m w) ∧ (∀ m, (s.bindLine j n).master m = s.master m)
    ∧ (∀ k, (s.bindLine j n).lease k = s.lease k) ∧ (∀ m, (s.bindLine j n).offerList m = s.offerList m)
    ∧ (∀ c, (s.bindLine j n).channel c = s.channel c) ∧ (s.bindLine j n).claims = s.claims
    ∧ (s.bindLine j n).baseA = s.baseA ∧ (s.bindLine j n).baseB = s.baseB ∧ (s.bindLine j n).deviceNotice = s.deviceNotice
    ∧ (s.bindLine j n).freeze = s.freeze ∧ (∀ base', (s.bindLine j n).now base' = s.now base')
    ∧ (∀ base', (s.bindLine j n).expiryQueue base' = s.expiryQueue base') := by
  cases j <;> simp [State.bindLine]

@[simp] theorem leaveOffers_keeps (j : Option (Fin 8)) (n : Fin 64) :
    (∀ m w, (s.leaveOffers j n).window m w = s.window m w) ∧ (∀ m, (s.leaveOffers j n).master m = s.master m)
    ∧ (∀ k, (s.leaveOffers j n).lease k = s.lease k) ∧ (∀ k, (s.leaveOffers j n).line k = s.line k)
    ∧ (∀ c, (s.leaveOffers j n).channel c = s.channel c) ∧ (s.leaveOffers j n).claims = s.claims
    ∧ (s.leaveOffers j n).baseA = s.baseA ∧ (s.leaveOffers j n).baseB = s.baseB
    ∧ (s.leaveOffers j n).deviceNotice = s.deviceNotice
    ∧ (s.leaveOffers j n).freeze = s.freeze ∧ (∀ base', (s.leaveOffers j n).now base' = s.now base')
    ∧ (∀ base', (s.leaveOffers j n).expiryQueue base' = s.expiryQueue base') := by
  cases j <;> simp [State.leaveOffers]

@[simp] theorem lowerCount_keeps (j : Option (Fin 8)) :
    (∀ m w, (s.lowerCount j).window m w = s.window m w) ∧ (∀ n, (s.lowerCount j).lease n = s.lease n)
    ∧ (∀ m, (s.lowerCount j).offerList m = s.offerList m) ∧ (∀ k, (s.lowerCount j).line k = s.line k)
    ∧ (∀ c, (s.lowerCount j).channel c = s.channel c) ∧ (s.lowerCount j).claims = s.claims
    ∧ (s.lowerCount j).baseA = s.baseA ∧ (s.lowerCount j).baseB = s.baseB ∧ (s.lowerCount j).deviceNotice = s.deviceNotice
    ∧ (s.lowerCount j).freeze = s.freeze ∧ (∀ base', (s.lowerCount j).now base' = s.now base')
    ∧ (∀ base', (s.lowerCount j).expiryQueue base' = s.expiryQueue base') := by
  cases j <;> simp [State.lowerCount]

/-! ### The lapse step and the freeing step (R14, R15) -/

@[simp] theorem detach_keeps (n : Fin 64) :
    (∀ m w, (s.detach n).window m w = s.window m w) ∧ (∀ m, (s.detach n).master m = s.master m)
    ∧ (∀ k, (s.detach n).lease k = s.lease k) ∧ (s.detach n).claims = s.claims
    ∧ (s.detach n).baseA = s.baseA ∧ (s.detach n).baseB = s.baseB ∧ (s.detach n).deviceNotice = s.deviceNotice
    ∧ (s.detach n).freeze = s.freeze ∧ (∀ base', (s.detach n).now base' = s.now base') := by
  simp [State.detach, State.leaveExpiry, State.releaseChannels]

theorem detach_channel (n : Fin 64) (c : Fin 16) :
    (s.detach n).channel c = if (s.lease n).channels.getLsbD c.val then (s.channel c).release else s.channel c := by
  simp [State.detach, State.leaveExpiry]

theorem detach_line (n : Fin 64) (k : Fin 8) :
    (s.detach n).line k = if (s.lease n).line = some k then { s.line k with bound := none } else s.line k := by
  simp [State.detach, State.leaveExpiry, unbindLine_line, State.releaseChannels]

theorem detach_offerList (n : Fin 64) (m : Fin 8) :
    (s.detach n).offerList m = if (s.lease n).offerTarget = some m then (s.offerList m).filter (· != n) else s.offerList m := by
  simp [State.detach, State.leaveExpiry, leaveOffers_offerList, State.releaseChannels]

theorem detach_expiryQueue (n : Fin 64) (base : Base) :
    (s.detach n).expiryQueue base = if base = (s.lease n).base then (s.expiryQueue base).filter (· != n) else s.expiryQueue base := by
  simp only [State.detach, leaveOffers_keeps, unbindLine_keeps, State.releaseChannels, mapChannels_expiryQueue, leaveExpiry_expiryQueue]
  split_ifs with h
  · rw [h]
  · rfl

@[simp] theorem lapse_keeps (n : Fin 64) (why : EndReason) :
    (∀ m w, (s.lapse n why).window m w = s.window m w) ∧ (∀ m, (s.lapse n why).master m = s.master m)
    ∧ (∀ c, (s.lapse n why).channel c = (s.detach n).channel c) ∧ (∀ k, (s.lapse n why).line k = (s.detach n).line k)
    ∧ (∀ m, (s.lapse n why).offerList m = (s.detach n).offerList m)
    ∧ (∀ base', (s.lapse n why).expiryQueue base' = (s.detach n).expiryQueue base') ∧ (s.lapse n why).claims = s.claims
    ∧ (s.lapse n why).baseA = s.baseA ∧ (s.lapse n why).baseB = s.baseB ∧ (s.lapse n why).deviceNotice = s.deviceNotice
    ∧ (s.lapse n why).freeze = s.freeze ∧ (∀ base', (s.lapse n why).now base' = s.now base') := by
  simp [State.lapse, State.raiseNotice]

theorem lapse_lease (n k : Fin 64) (why : EndReason) :
    (s.lapse n why).lease k = if k = n then (s.lease n).afterLapse why else s.lease k := by
  rw [lapse_eq_lapsedBy, State.lapsedBy, setLease_lease, ← detach_eq_letGo, (detach_keeps s n).2.2.1]

@[simp] theorem freeLease_keeps (n : Fin 64) :
    (∀ m w, (s.freeLease n).window m w = s.window m w) ∧ (s.freeLease n).claims = s.claims
    ∧ (s.freeLease n).baseA = s.baseA ∧ (s.freeLease n).baseB = s.baseB ∧ (s.freeLease n).deviceNotice = s.deviceNotice
    ∧ (s.freeLease n).freeze = s.freeze ∧ (∀ base', (s.freeLease n).now base' = s.now base') := by
  simp only [State.freeLease]
  split_ifs <;> simp

/-- What a freed record leaves of a neighbour table: a live one is detached first. -/
theorem freeLease_reads (n : Fin 64) :
    (∀ c, (s.freeLease n).channel c = if (s.lease n).live then (s.detach n).channel c else s.channel c)
    ∧ (∀ k, (s.freeLease n).line k = if (s.lease n).live then (s.detach n).line k else s.line k)
    ∧ (∀ m, (s.freeLease n).offerList m = if (s.lease n).live then (s.detach n).offerList m else s.offerList m)
    ∧ (∀ base', (s.freeLease n).expiryQueue base' = if (s.lease n).live then (s.detach n).expiryQueue base' else s.expiryQueue base') := by
  simp only [State.freeLease]
  split_ifs <;> simp

theorem freeLease_lease (n k : Fin 64) :
    (s.freeLease n).lease k = if k = n then Lease.rest (s.lease n).generation else s.lease k := by
  simp only [State.freeLease, lowerCount_keeps, setLease_lease]
  split_ifs <;> simp

theorem freeLease_master (n : Fin 64) (m : Fin 8) :
    (s.freeLease n).master m =
      if (s.lease n).holder = some m then { s.master m with count := (s.master m).count - 1 } else s.master m := by
  simp only [State.freeLease, lowerCount_master]
  split_ifs <;> simp

/-! ### Renewal and grace (R41, R68, R69) -/

@[simp] theorem requeue_keeps (base : Base) (n : Fin 64) :
    (∀ m w, (s.requeue base n).window m w = s.window m w) ∧ (∀ m, (s.requeue base n).master m = s.master m)
    ∧ (∀ k, (s.requeue base n).lease k = s.lease k) ∧ (∀ m, (s.requeue base n).offerList m = s.offerList m)
    ∧ (∀ c, (s.requeue base n).channel c = s.channel c) ∧ (∀ k, (s.requeue base n).line k = s.line k)
    ∧ (s.requeue base n).claims = s.claims ∧ (s.requeue base n).baseA = s.baseA ∧ (s.requeue base n).baseB = s.baseB
    ∧ (s.requeue base n).deviceNotice = s.deviceNotice ∧ (s.requeue base n).freeze = s.freeze
    ∧ (∀ base', (s.requeue base n).now base' = s.now base') := by
  simp [requeue_eq_setExpiryQueue]

@[simp] theorem renewLease_keeps (n : Fin 64) (stamp : Stamp) :
    (∀ m w, (s.renewLease n stamp).window m w = s.window m w) ∧ (∀ m, (s.renewLease n stamp).master m = s.master m)
    ∧ (∀ m, (s.renewLease n stamp).offerList m = s.offerList m) ∧ (∀ k, (s.renewLease n stamp).line k = s.line k)
    ∧ (s.renewLease n stamp).claims = s.claims ∧ (s.renewLease n stamp).baseA = s.baseA
    ∧ (s.renewLease n stamp).baseB = s.baseB ∧ (s.renewLease n stamp).deviceNotice = s.deviceNotice
    ∧ (s.renewLease n stamp).freeze = s.freeze ∧ (∀ base', (s.renewLease n stamp).now base' = s.now base') := by
  simp only [State.renewLease]
  split_ifs <;> simp

theorem renewLease_lease (n k : Fin 64) (stamp : Stamp) :
    (s.renewLease n stamp).lease k = if k = n then (s.lease n).renewed (s.now (s.lease n).base) stamp else s.lease k := by
  simp only [State.renewLease]
  split_ifs with h <;> simp [setLease_lease, *]

theorem renewLease_channel (n : Fin 64) (stamp : Stamp) (c : Fin 16) :
    (s.renewLease n stamp).channel c =
      if (s.lease n).state = .grace ∧ (s.lease n).channels.getLsbD c.val = true then (s.channel c).unpark else s.channel c := by
  simp only [State.renewLease, ite_and]
  split_ifs <;> simp [*, -BitVec.getLsbD_eq_getElem]

theorem renewLease_expiryQueue (n : Fin 64) (stamp : Stamp) (base : Base) :
    (s.renewLease n stamp).expiryQueue base =
      ((s.setLease n ((s.lease n).renewed (s.now (s.lease n).base) stamp)).requeue (s.lease n).base n).expiryQueue base := by
  simp only [State.renewLease]
  split_ifs <;> simp

/-- R41: the record of a lease that enters grace. -/
def Lease.intoGrace (l : Lease) : Lease := { l with state := .grace, expiry := l.expiry + l.grace.setWidth 32 }

@[simp] theorem enterGrace_keeps (n : Fin 64) :
    (∀ m w, (s.enterGrace n).window m w = s.window m w) ∧ (∀ m, (s.enterGrace n).master m = s.master m)
    ∧ (∀ m, (s.enterGrace n).offerList m = s.offerList m) ∧ (∀ k, (s.enterGrace n).line k = s.line k)
    ∧ (s.enterGrace n).claims = s.claims ∧ (s.enterGrace n).baseA = s.baseA
    ∧ (s.enterGrace n).baseB = s.baseB ∧ (s.enterGrace n).deviceNotice = s.deviceNotice
    ∧ (s.enterGrace n).freeze = s.freeze ∧ (∀ base', (s.enterGrace n).now base' = s.now base') := by
  simp only [State.enterGrace, State.raiseNotice]
  split_ifs <;> simp

theorem enterGrace_lease (n k : Fin 64) :
    (s.enterGrace n).lease k = if k = n then (s.lease n).intoGrace.raise .grace else s.lease k := by
  simp only [State.enterGrace, State.raiseNotice]
  split_ifs with h <;> simp [setLease_lease, Lease.intoGrace, *]

theorem enterGrace_channel (n : Fin 64) (c : Fin 16) :
    (s.enterGrace n).channel c =
      if (s.lease n).graceAction = .park ∧ (s.lease n).channels.getLsbD c.val = true then (s.channel c).park else s.channel c := by
  simp only [State.enterGrace, State.raiseNotice, ite_and]
  split_ifs <;> simp [*, -BitVec.getLsbD_eq_getElem]

theorem enterGrace_expiryQueue (n : Fin 64) (base : Base) :
    (s.enterGrace n).expiryQueue base = ((s.setLease n (s.lease n).intoGrace).requeue (s.lease n).base n).expiryQueue base := by
  simp only [State.enterGrace, State.raiseNotice, Lease.intoGrace]
  split_ifs <;> simp

/-! ### Offers (R104 to R108) -/

@[simp] theorem makeOffer_keeps (n : Fin 64) (target : Fin 8) :
    (∀ m w, (s.makeOffer n target).window m w = s.window m w) ∧ (∀ m, (s.makeOffer n target).master m = s.master m)
    ∧ (∀ c, (s.makeOffer n target).channel c = s.channel c) ∧ (∀ k, (s.makeOffer n target).line k = s.line k)
    ∧ (s.makeOffer n target).claims = s.claims ∧ (s.makeOffer n target).baseA = s.baseA
    ∧ (s.makeOffer n target).baseB = s.baseB ∧ (s.makeOffer n target).deviceNotice = s.deviceNotice
    ∧ (s.makeOffer n target).freeze = s.freeze ∧ (∀ base', (s.makeOffer n target).now base' = s.now base')
    ∧ (∀ base', (s.makeOffer n target).expiryQueue base' = s.expiryQueue base') := by
  simp [State.makeOffer]

theorem makeOffer_lease (n k : Fin 64) (target : Fin 8) :
    (s.makeOffer n target).lease k = if k = n then { s.lease n with offerTarget := some target } else s.lease k := by
  simp [State.makeOffer, setLease_lease]

theorem makeOffer_offerList (n : Fin 64) (target m : Fin 8) :
    (s.makeOffer n target).offerList m =
      (if (s.lease n).offerTarget = some m then (s.offerList m).filter (· != n) else s.offerList m)
        ++ if m = target then [n] else [] := by
  simp only [State.makeOffer, setOfferList_offerList, setLease_offerList, leaveOffers_offerList]
  split_ifs <;> simp_all

@[simp] theorem endOffer_keeps (n : Fin 64) :
    (∀ m w, (s.endOffer n).window m w = s.window m w) ∧ (∀ m, (s.endOffer n).master m = s.master m)
    ∧ (∀ c, (s.endOffer n).channel c = s.channel c) ∧ (∀ k, (s.endOffer n).line k = s.line k)
    ∧ (s.endOffer n).claims = s.claims ∧ (s.endOffer n).baseA = s.baseA
    ∧ (s.endOffer n).baseB = s.baseB ∧ (s.endOffer n).deviceNotice = s.deviceNotice
    ∧ (s.endOffer n).freeze = s.freeze ∧ (∀ base', (s.endOffer n).now base' = s.now base')
    ∧ (∀ base', (s.endOffer n).expiryQueue base' = s.expiryQueue base') := by
  simp [State.endOffer]

theorem endOffer_lease (n k : Fin 64) :
    (s.endOffer n).lease k = if k = n then { s.lease n with offerTarget := none } else s.lease k := by
  simp [State.endOffer, setLease_lease]

theorem endOffer_offerList (n : Fin 64) (m : Fin 8) :
    (s.endOffer n).offerList m =
      if (s.lease n).offerTarget = some m then (s.offerList m).filter (· != n) else s.offerList m := by
  simp [State.endOffer, leaveOffers_offerList]

@[simp] theorem acceptLease_keeps (n : Fin 64) (m : Fin 8) :
    (∀ k w, (s.acceptLease n m).window k w = s.window k w)
    ∧ (∀ c, (s.acceptLease n m).channel c = s.channel c) ∧ (∀ k, (s.acceptLease n m).line k = s.line k)
    ∧ (s.acceptLease n m).claims = s.claims ∧ (s.acceptLease n m).baseA = s.baseA
    ∧ (s.acceptLease n m).baseB = s.baseB ∧ (s.acceptLease n m).deviceNotice = s.deviceNotice
    ∧ (s.acceptLease n m).freeze = s.freeze ∧ (∀ base', (s.acceptLease n m).now base' = s.now base')
    ∧ (∀ base', (s.acceptLease n m).expiryQueue base' = s.expiryQueue base') := by
  simp [State.acceptLease, State.raiseCount]

theorem acceptLease_lease (n k : Fin 64) (m : Fin 8) :
    (s.acceptLease n m).lease k = if k = n then (s.lease n).acceptedBy m else s.lease k := by
  simp [State.acceptLease, State.raiseCount, setLease_lease]

theorem acceptLease_offerList (n : Fin 64) (m k : Fin 8) :
    (s.acceptLease n m).offerList k = if k = m then (s.offerList k).filter (· != n) else s.offerList k := by
  simp [State.acceptLease, State.raiseCount, leaveOffers_offerList, eq_comm]

theorem acceptLease_master (n : Fin 64) (m k : Fin 8) :
    (s.acceptLease n m).master k =
      { s.master k with
        count := (if (s.lease n).holder = some k then (s.master k).count - 1 else (s.master k).count) + if k = m then 1 else 0 } := by
  simp only [State.acceptLease, raiseCount_master, lowerCount_master, setLease_master, leaveOffers_keeps]
  split_ifs <;> simp_all

/-- A fold that changes only leases keeps the rest, and drops the offer target of each lease of the list. -/
theorem foldl_dropTarget (l : List (Fin 64)) (t : State) :
    let u := l.foldl (fun u n => u.setLease n { u.lease n with offerTarget := none }) t
    (∀ n, u.lease n = if n ∈ l then { t.lease n with offerTarget := none } else t.lease n) ∧ u = { t with leases := u.leases } := by
  induction l generalizing t with
  | nil => exact ⟨fun _ => rfl, rfl⟩
  | cons x l ih =>
    obtain ⟨hlease, hrest⟩ := ih (t.setLease x { t.lease x with offerTarget := none })
    refine ⟨fun n => (hlease n).trans ?_, hrest.trans rfl⟩
    by_cases hx : n = x
    · subst hx; simp
    · simp [setLease_lease_other t hx, hx]

@[simp] theorem withdrawOffersTo_keeps (m : Fin 8) :
    (∀ k w, (s.withdrawOffersTo m).window k w = s.window k w) ∧ (∀ k, (s.withdrawOffersTo m).master k = s.master k)
    ∧ (∀ c, (s.withdrawOffersTo m).channel c = s.channel c) ∧ (∀ k, (s.withdrawOffersTo m).line k = s.line k)
    ∧ (s.withdrawOffersTo m).claims = s.claims ∧ (s.withdrawOffersTo m).baseA = s.baseA
    ∧ (s.withdrawOffersTo m).baseB = s.baseB ∧ (s.withdrawOffersTo m).deviceNotice = s.deviceNotice
    ∧ (s.withdrawOffersTo m).freeze = s.freeze ∧ (∀ base', (s.withdrawOffersTo m).now base' = s.now base')
    ∧ (∀ base', (s.withdrawOffersTo m).expiryQueue base' = s.expiryQueue base') := by
  rw [State.withdrawOffersTo, (foldl_dropTarget (s.offerList m) s).2]
  refine ⟨fun _ _ => rfl, fun _ => rfl, fun _ => rfl, fun _ => rfl, rfl, rfl, rfl, rfl, rfl, ?_, ?_⟩ <;> intro base <;> cases base <;> rfl

theorem withdrawOffersTo_lease (m : Fin 8) (n : Fin 64) :
    (s.withdrawOffersTo m).lease n =
      if n ∈ s.offerList m then { s.lease n with offerTarget := none } else s.lease n := by
  simp [State.withdrawOffersTo, (foldl_dropTarget (s.offerList m) s).1]

theorem withdrawOffersTo_offerList (m k : Fin 8) :
    (s.withdrawOffersTo m).offerList k = if k = m then [] else s.offerList k := by
  rw [State.withdrawOffersTo, setOfferList_offerList, (foldl_dropTarget (s.offerList m) s).2]
  rfl

/-! ### The grant (R12, R13) -/

@[simp] theorem enterExpiry_keeps (base : Base) (n : Fin 64) :
    (∀ m w, (s.enterExpiry base n).window m w = s.window m w) ∧ (∀ m, (s.enterExpiry base n).master m = s.master m)
    ∧ (∀ k, (s.enterExpiry base n).lease k = s.lease k) ∧ (∀ m, (s.enterExpiry base n).offerList m = s.offerList m)
    ∧ (∀ c, (s.enterExpiry base n).channel c = s.channel c) ∧ (∀ k, (s.enterExpiry base n).line k = s.line k)
    ∧ (s.enterExpiry base n).claims = s.claims ∧ (s.enterExpiry base n).baseA = s.baseA ∧ (s.enterExpiry base n).baseB = s.baseB
    ∧ (s.enterExpiry base n).deviceNotice = s.deviceNotice ∧ (s.enterExpiry base n).freeze = s.freeze
    ∧ (∀ base', (s.enterExpiry base n).now base' = s.now base') := by
  simp [State.enterExpiry]

@[simp] theorem grant_keeps (q : Claim) (n : Fin 64) :
    (∀ m w, (s.grant q n).window m w = s.window m w) ∧ (∀ m, (s.grant q n).offerList m = s.offerList m)
    ∧ (s.grant q n).claims = s.claims ∧ (s.grant q n).baseA = s.baseA ∧ (s.grant q n).baseB = s.baseB
    ∧ (s.grant q n).deviceNotice = s.deviceNotice ∧ (s.grant q n).freeze = s.freeze ∧ (∀ base', (s.grant q n).now base' = s.now base') := by
  simp [State.grant, State.raiseCount, State.governChannels]

theorem grant_lease (q : Claim) (n k : Fin 64) :
    (s.grant q n).lease k = if k = n then q.granted (s.lease n) (s.now q.base) else s.lease k := by
  simp [State.grant, State.raiseCount, State.governChannels, setLease_lease]

theorem grant_channel (q : Claim) (n : Fin 64) (c : Fin 16) :
    (s.grant q n).channel c = if q.channels.getLsbD c.val then (s.channel c).enterActive n else s.channel c := by
  simp [State.grant, State.raiseCount]

theorem grant_line (q : Claim) (n : Fin 64) (k : Fin 8) :
    (s.grant q n).line k = if q.line = some k then { s.line k with bound := some n } else s.line k := by
  simp [State.grant, State.raiseCount, bindLine_line, State.governChannels]

theorem grant_master (q : Claim) (n : Fin 64) (m : Fin 8) :
    (s.grant q n).master m =
      if m = q.master then { s.master q.master with count := (s.master q.master).count + 1 } else s.master m := by
  simp [State.grant, raiseCount_master, State.governChannels]

theorem grant_expiryQueue (q : Claim) (n : Fin 64) (base : Base) :
    (s.grant q n).expiryQueue base =
      ((s.setLease n (q.granted (s.lease n) (s.now q.base))).enterExpiry q.base n).expiryQueue base := by
  simp [State.grant, State.raiseCount, State.governChannels]

end Sys2Proof.Machine
end

section
/-! PROOFS. What a row of the table can do to the state, said once. A row is a `Row`: one of twelve kinds of event, each made of changes of
single records (`Calm`, `Ending`), of a change of windows and claims, and of the scan that closes it. -/

namespace Sys2Proof.Machine

/-! ### Changes of single records -/

/-- What a change of options, terms or notices leaves of a lease. -/
structure Lease.SameStanding (l l' : Lease) : Prop where
  state : l'.state = l.state
  generation : l'.generation = l.generation
  holder : l'.holder = l.holder
  channels : l'.channels = l.channels
  base : l'.base = l.base
  line : l'.line = l.line
  expiry : l'.expiry = l.expiry
  endReason : l'.endReason = l.endReason
  offerTarget : l'.offerTarget = l.offerTarget

/-- What `State.wavesKept` says of the waveform fields of one channel. -/
structure Waveform.Kept (v : Waveform) : Prop where
  level : v.mode = .level → v.flipFlop = v.level ∧ v.rise = none ∧ v.fall = none
  unused : v.mode ≠ .periodic → v.period = 0 ∧ v.width = 0 ∧ v.staged = none ∧ v.position = 0
  levelUnused : v.mode ≠ .level → v.level = false
  periodic : v.mode = .periodic →
    v.rise = none ∧ v.fall = none ∧ 2 ≤ v.period.toNat ∧ 2 ≤ (v.staged.map fun pair => pair.1.toNat).getD 2

/-- The changes that touch no window, no claim and no lease count, and that can make no claim grantable (R54). -/
inductive Calm : State → State → Prop
  /-- Settings, counts and input pins: the counters and the state of base B stay, and the device notice stays or is cleared. -/
  | settings {s : State} (a : BaseA) (b : BaseB) (notice : DeviceNotice) (freeze resetAsserted : Bool) (freeCount : Nat)
      (pending : List Instr) (hcounterA : a.counter = s.baseA.counter) (hcounterB : b.counter = s.baseB.counter)
      (hstate : b.state = s.baseB.state) (hnotice : notice = s.deviceNotice ∨ notice = .none)
      (hdivisors : s.divisorsKept → 1 ≤ a.divisor.toNat ∧ 1 ≤ a.divisorInUse.toNat ∧ 1 ≤ b.divisor.toNat ∧ 1 ≤ b.divisorInUse.toNat) :
      Calm s { s with baseA := a, baseB := b, deviceNotice := notice, freeze := freeze, resetAsserted := resetAsserted,
                      freeCount := freeCount, pending := pending }
  | start (s : State) : Calm s s.startBaseB
  | stop {s : State} (hrunning : s.baseB.state = .running) (hlive : ∀ n, (s.lease n).live = true → (s.lease n).base ≠ .b)
      (hclaims : ∀ q ∈ s.claims, q.base ≠ .b) : Calm s s.stopBaseB
  | renew {s : State} (n : Fin 64) (stamp : Stamp) (hlive : (s.lease n).live = true) : Calm s (s.renewLease n stamp)
  | grace {s : State} (n : Fin 64) (hheld : (s.lease n).state = .held) : Calm s (s.enterGrace n)
  /-- Options, staged term and notices of a lease. -/
  | note {s : State} (n : Fin 64) (l : Lease) (hsame : (s.lease n).SameStanding l)
      (hstanding : (s.lease n).state ≠ .free ∨ ∃ c, (s.channel c).governing = some n)
      (hstaged : l.stagedTerm = (s.lease n).stagedTerm ∨ (s.lease n).live = true) : Calm s (s.setLease n l)
  | offer {s : State} (n : Fin 64) (target : Fin 8) (hlive : (s.lease n).live = true)
      (hplace : (s.offerList target).length < 4 ∨ n ∈ s.offerList target) : Calm s (s.makeOffer n target)
  | endOffer {s : State} (n : Fin 64) : Calm s (s.endOffer n)
  | add {s : State} (n : Fin 64) (set : ChannelSet) (hlive : (s.lease n).live = true)
      (hidle : ∀ c : Fin 16, set.getLsbD c.val = true → (s.channel c).state = .idle) :
      Calm s ((s.setLease n { s.lease n with channels := (s.lease n).channels ||| set }).governChannels set n)
  /-- The generator of a channel that a lease lists, or that is in a mode which is not the one of rest. -/
  | wave {s : State} (c : Fin 16) (v : Waveform) (hkept : (s.channel c).wave.Kept → v.Kept)
      (hworking : (∃ n, (s.lease n).channels.getLsbD c.val = true)
        ∨ ((s.channel c).wave.mode ≠ .level ∧ v.mode = (s.channel c).wave.mode)) :
      Calm s (s.setChannel c { s.channel c with wave := v })
  | config {s : State} (c : Fin 16) (g : ChannelConfig) (hsafe : ¬ (g.drive = .openDrain ∧ g.safeLevel = .high)) :
      Calm s (s.setChannel c { s.channel c with config := g })
  | line {s : State} (k : Fin 8) (l : Line) (hbound : l.bound = (s.line k).bound) : Calm s (s.setLine k l)

/-- A sequence of calm changes. -/
abbrev Calms : State → State → Prop := Relation.ReflTransGen Calm

/-- The changes that touch no window and no claim, and that may set channels, records or counts free (R54), or stall base B. -/
inductive Ending : State → State → Prop
  /-- A live lease lapses, or one of queue B in a stall event (R44). -/
  | lapse {s : State} (n : Fin 64) (why : EndReason)
      (h : (s.lease n).live = true ∨ n ∈ s.expiryB ∨ (s.lease n).state = .lapsed) : Ending s (s.lapse n why)
  | free {s : State} (n : Fin 64) : Ending s (s.freeLease n)
  | accept {s : State} (n : Fin 64) (m : Fin 8) (hstate : (s.lease n).state ≠ .free) (htarget : (s.lease n).offerTarget = some m)
      (hquota : (s.master m).count < (s.master m).quota) : Ending s (s.acceptLease n m)
  | drop {s : State} (n : Fin 64) (set : ChannelSet) (hlive : (s.lease n).live = true)
      (hsub : ∀ c : Fin 16, set.getLsbD c.val = true → (s.lease n).channels.getLsbD c.val = true)
      (hrest : (s.lease n).channels &&& ~~~set ≠ 0) :
      Ending s ((s.releaseChannels set).setLease n { s.lease n with channels := (s.lease n).channels &&& ~~~set })
  | withdraw {s : State} (m : Fin 8) : Ending s (s.withdrawOffersTo m)
  | stall {s : State} (hlapsed : ∀ n ∈ s.expiryB, (s.lease n).state = .lapsed) (hclaims : ∀ q ∈ s.claims, q.base ≠ .b) :
      Ending s { s with baseB := { s.baseB with state := .stalled, edgeCount := 0, stallWatch := 0 }, deviceNotice := .baseBStalled }

/-- A sequence of endings. -/
abbrev Endings : State → State → Prop := Relation.ReflTransGen Ending

/-! ### Changes of windows -/

/-- A window whose command is done (R163). -/
structure Window.Answered (x : Window) : Prop where
  state : x.state = .done
  code : x.code ≠ none
  drainSet : x.drainSet = 0

/-- A window whose RELEASE waits for its drain (R88). -/
structure Window.Draining (x : Window) : Prop where
  state : x.state = .busy
  command : x.command = 0x16
  code : x.code = none
  words : x.words = Vector.replicate 12 0
  completionPending : x.completionPending = false
  drainSet : x.drainSet ≠ 0

/-- A window whose CLAIM waits in the grant queue (R52); the drain set is the one the window had. -/
structure Window.Claiming (x : Window) (drainSet : ChannelSet) : Prop where
  state : x.state = .busy
  command : x.command = 0x10
  code : x.code = none
  words : x.words = Vector.replicate 12 0
  completionPending : x.completionPending = false
  drainSet : x.drainSet = drainSet

/-- What `x'` may be that a row makes of window `w` of master `m` without a claim leaving or joining the queue. -/
inductive WindowChange (s : State) (m : Fin 8) (w : Fin 2) (x' : Window) : Prop
  /-- Flags and argument words (R160, R162, R164, R165). -/
  | flags (hstate : x'.state = (s.window m w).state) (hcommand : x'.command = (s.window m w).command)
      (hcode : x'.code = (s.window m w).code) (hwords : x'.words = (s.window m w).words)
      (hdrain : x'.drainSet = (s.window m w).drainSet)
      (hpending : x'.completionPending = (s.window m w).completionPending)
  /-- A command that the port refuses (R167). -/
  | refused (hfree : (s.window m w).state ≠ .busy) (hdone : x'.Answered)
  /-- The result is taken (R165). -/
  | taken (hdone : (s.window m w).state = .done) (hstate : x'.state = .idle) (hcode : x'.code = none)
      (hwords : x'.words = Vector.replicate 12 0) (hdrain : x'.drainSet = (s.window m w).drainSet)
      (hcommand : x'.command = (s.window m w).command) (hpending : x'.completionPending = false)
  /-- A drain wait is aborted (R89). -/
  | drainAborted (hnone : ∀ q ∈ s.claims, ¬ (q.master = m ∧ q.window = w)) (hdone : x'.Answered)

/-! ### The kinds of event -/

/-- What a claim is that CLAIM's checks let through (R49). -/
structure State.Admits (s : State) (q : Claim) : Prop where
  channels : q.channels ≠ 0
  base : q.base = .b → s.baseB.state = .running
  line : ∀ k : Fin 8, q.line = some k → ¬ s.lineTaken k
  quota : (s.master q.master).count < (s.master q.master).quota

/-- What a row can do, a scan at its end included. -/
inductive Row : State → State → Prop
  | calm {s t : State} (h : Calms s t) : Row s t
  | window {s : State} (m : Fin 8) (w : Fin 2) (x : Window) (h : WindowChange s m w x) : Row s (s.setWindow m w x)
  /-- A command whose effect is calm. -/
  | answered {s u : State} (m : Fin 8) (w : Fin 2) (x y : Window) (hfree : (s.window m w).state ≠ .busy)
      (h : Calms (s.setWindow m w x) u) (hy : y.Answered) : Row s (u.setWindow m w y)
  /-- A command that may end leases; RELEASE may stay in its window. -/
  | closed {s u : State} (m : Fin 8) (w : Fin 2) (x y : Window) (hfree : (s.window m w).state ≠ .busy)
      (h : Endings (s.setWindow m w x) u) (hy : y.Answered ∨ y.Draining) : Row s (closeEvent s (u.setWindow m w y))
  /-- An internal event that may end a lease. -/
  | lapsed {s u : State} (h : Endings s u) : Row s (closeEvent s u)
  /-- CONFIG_MASTER. -/
  | configured {s : State} (m : Fin 8) (w : Fin 2) (x y : Window) (hfree : (s.window m w).state ≠ .busy) (k : Fin 8) (r : Master)
      (hcount : r.count = (s.master k).count) (hrole : r.role = (s.master k).role)
      (henabled : (s.master k).enabled = true → r.enabled = true)
      (hquota : (s.master k).quota ≤ 64 → r.quota ≤ 64) (hy : y.Answered) :
      Row s (closeEvent s (((s.setWindow m w x).setMaster k r).setWindow m w y))
  /-- A CLAIM that joins the queue. -/
  | joined {s : State} (m : Fin 8) (w : Fin 2) (x : Window) (q : Claim) (arrivals : Word) (hfree : (s.window m w).state ≠ .busy)
      (hx : x.Claiming (s.window m w).drainSet) (hmaster : q.master = m) (hwindow : q.window = w) (hlength : s.claims.length < 12)
      (hq : s.Admits q) (hwait : ¬ s.grantableBehind s.claims q) :
      Row s ({ s with arrivals := arrivals, claims := s.claims ++ [q] }.setWindow m w x)
  /-- A CLAIM that is granted at once. -/
  | granted {s : State} (m : Fin 8) (w : Fin 2) (y : Window) (q : Claim) (n : Fin 64) (hfree : (s.window m w).state ≠ .busy)
      (hy : y.Answered) (hq : s.Admits q) (hidle : ∀ c : Fin 16, q.channels.getLsbD c.val = true → (s.channel c).state = .idle)
      (hn : (s.lease n).state = .free) : Row s ((s.grant q n).setWindow m w y)
  | tableReset {s : State} (m : Fin 8) (w : Fin 2) (y : Window) (hfree : (s.window m w).state ≠ .busy) (hy : y.Answered) :
      Row s (s.resetTable.setWindow m w y)
  /-- DISABLE_MASTER of master `k`, once its leases are freed and the offers to it withdrawn. -/
  | disabled {s u : State} (m : Fin 8) (w : Fin 2) (k : Fin 8) (x y : Window) (hfree : (s.window m w).state ≠ .busy) (hk : k ≠ 0)
      (h : Endings (s.setWindow m w x) u) (hnone : ∀ n, (u.lease n).holder ≠ some k) (hy : y.Answered) :
      Row s (closeEvent s
        ((((u.removeClaims fun q => q.master == k).resetWindowsOf k).setMaster k (u.master k).disabled).setWindow m w y))
  /-- Claims leave the queue with a result, and leases may end in the same event (R45, R57, R59). -/
  | ended {s u : State} (p : Claim → Bool) (code : ResultCode) (h : Endings (s.endClaims p code) u) : Row s (closeEvent s u)
  | drained {s : State} (c : Fin 16) (hdue : s.drainEndDue c = true) :
      Row s (closeEvent s ((s.setChannel c (s.channel c).enterIdle).mapWindows fun _ _ x => x.leaveDrain c))
  | windowReset {s : State} (m : Fin 8) (w : Fin 2) : Row s (windowResetControl m w s)

/-- A sequence of rows. -/
abbrev Rows : State → State → Prop := Relation.ReflTransGen Row

theorem Row.refl (s : State) : Row s s := .calm .refl

theorem Row.of_calm {s t : State} (h : Calm s t) : Row s t := .calm (.single h)

/-! ### Taking a command -/

/-- R161 to R163: what taking a command can come to. -/
theorem takeCommand_cases (m : Fin 8) (w : Fin 2) (word : Word) (reserved bad : Args → Bool) (owner : Args → State → Reply) (s : State) :
    ((s.window m w).state = .busy
        ∧ takeCommand m w word reserved bad owner s = s.setWindow m w { s.window m w with collision := true })
    ∨ ((s.window m w).state ≠ .busy
        ∧ ∃ code, takeCommand m w word reserved bad owner s = s.finish m w word code [])
    ∨ ((s.window m w).state ≠ .busy
        ∧ (s.master m).enabled = true ∧ (reserved (s.args m w) = false ∨ m = 0) ∧ bad (s.args m w) = false
        ∧ ((∃ u code items, owner (s.args m w) (s.setWindow m w ((s.window m w).take word)) = (u, some (code, items))
              ∧ takeCommand m w word reserved bad owner s = u.complete m w code items)
          ∨ ∃ u, owner (s.args m w) (s.setWindow m w ((s.window m w).take word)) = (u, none)
              ∧ takeCommand m w word reserved bad owner s = u)) := by
  by_cases hbusy : (s.window m w).state = .busy
  · exact .inl ⟨hbusy, takeCommand_busy s m w word reserved bad owner hbusy⟩
  right
  cases hport : portCheck s m (reserved (s.args m w)) (bad (s.args m w)) with
  | some code => exact .inl ⟨hbusy, code, takeCommand_refused_eq_finish s m w word reserved bad owner hbusy hport⟩
  | none =>
    obtain ⟨henabled, hreserved, hbad⟩ := (portCheck_eq_none s m _ _).1 hport
    refine .inr ⟨hbusy, henabled, hreserved, hbad, ?_⟩
    cases howner : owner (s.args m w) (s.setWindow m w ((s.window m w).take word)) with
    | mk u result =>
      cases result with
      | none => exact .inr ⟨u, rfl, takeCommand_waits s m w word reserved bad owner hbusy hport howner⟩
      | some result => exact .inl ⟨u, result.1, result.2, rfl, takeCommand_answered s m w word reserved bad owner hbusy hport howner⟩

theorem Window.complete_answered (x : Window) (code : ResultCode) (items : List Word) : (x.complete code items).Answered :=
  ⟨rfl, Option.some_ne_none _, rfl⟩

theorem Window.doneWith_answered (x : Window) (word : Word) (code : ResultCode) (items : List Word) :
    (x.doneWith word code items).Answered :=
  ⟨rfl, Option.some_ne_none _, rfl⟩

/-- A collision touches the collision flag alone (R162). -/
theorem WindowChange.collide (s : State) (m : Fin 8) (w : Fin 2) : WindowChange s m w { s.window m w with collision := true } :=
  .flags rfl rfl rfl rfl rfl rfl

/-- The owner of a command completes it, by changes of one kind. -/
def AnswersBy (R : State → State → Prop) (s : State) (r : Reply) : Prop := R s r.1 ∧ r.2 ≠ none

theorem answersBy_answer {R : State → State → Prop} {s t : State} (h : R s t) (code : ResultCode) (items : List Word) :
    AnswersBy R s (answer t code items) := ⟨h, Option.some_ne_none _⟩

/-- R7: a command on a lease, by what it does once the handle checks pass. -/
theorem answersBy_onLease {R : State → State → Prop} [Std.Refl R] {s : State} {m : Fin 8} {h : Word} {holder lapsed : Bool}
    {k : Fin 64 → Reply}
    (hk : (s.lease (handleLease h)).state ≠ .free → (holder = true → (s.lease (handleLease h)).holder = some m) →
      (lapsed = true → (s.lease (handleLease h)).state ≠ .lapsed) → AnswersBy R s (k (handleLease h))) :
    AnswersBy R s (s.onLease m h holder lapsed k) := by
  cases hc : s.checkHandle m h holder lapsed with
  | some code =>
    rw [onLease_of_refused s m k hc]
    exact answersBy_answer (refl_of R s) code []
  | none =>
    rw [onLease_of_pass s m k hc]
    obtain ⟨hfree, -, hholder, hlapsed⟩ := (checkHandle_eq_none s m h holder lapsed).1 hc
    exact hk hfree hholder hlapsed

/-- A lease that is neither FREE nor LAPSED is live (R4). -/
theorem Lease.live_of_ne {l : Lease} (hfree : l.state ≠ .free) (hlapsed : l.state ≠ .lapsed) : l.live = true := by
  rw [lease_live_iff]
  cases h : l.state <;> simp_all

/-- A command that its owner completes by calm changes is a row. -/
theorem row_of_calmOwner {m : Fin 8} {w : Fin 2} {word : Word} {reserved bad : Args → Bool} {owner : Args → State → Reply}
    (h : ∀ (a : Args) (s : State), bad a = false → AnswersBy Calms s (owner a s)) (s : State) :
    Row s (takeCommand m w word reserved bad owner s) := by
  rcases takeCommand_cases m w word reserved bad owner s with ⟨-, e⟩ | ⟨hfree, code, e⟩ | ⟨hfree, -, -, hbad, ⟨u, code, items, ho, e⟩ | ⟨u, ho, -⟩⟩
  · exact e ▸ .window m w _ (.collide s m w)
  · exact e ▸ .window m w _ (.refused hfree (Window.doneWith_answered _ _ _ _))
  · have hcalm : Calms (s.setWindow m w ((s.window m w).take word)) u := by
      simpa only [ho] using (h (s.args m w) (s.setWindow m w ((s.window m w).take word)) hbad).1
    exact e ▸ .answered m w _ _ hfree hcalm (Window.complete_answered _ _ _)
  · exact absurd (by rw [ho]) (h (s.args m w) (s.setWindow m w ((s.window m w).take word)) hbad).2

/-- A command that its owner completes by endings, closed by a scan if it brings a trigger, is a row. -/
theorem row_of_endingOwner {m : Fin 8} {w : Fin 2} {word : Word} {reserved bad : Args → Bool} {owner : Args → State → Reply}
    (h : ∀ (a : Args) (s : State), bad a = false → AnswersBy Endings s (owner a s)) (s : State) :
    Row s (closeEvent s (takeCommand m w word reserved bad owner s)) := by
  rcases takeCommand_cases m w word reserved bad owner s with ⟨-, e⟩ | ⟨hfree, code, e⟩ | ⟨hfree, -, -, hbad, ⟨u, code, items, ho, e⟩ | ⟨u, ho, -⟩⟩
  · rw [e, closeEvent_setWindow]
    exact .window m w _ (.collide s m w)
  · rw [e, State.finish, closeEvent_setWindow]
    exact .window m w _ (.refused hfree (Window.doneWith_answered _ _ _ _))
  · have hends : Endings (s.setWindow m w ((s.window m w).take word)) u := by
      simpa only [ho] using (h (s.args m w) (s.setWindow m w ((s.window m w).take word)) hbad).1
    exact e ▸ .closed m w _ _ hfree hends (.inl (Window.complete_answered _ _ _))
  · exact absurd (by rw [ho]) (h (s.args m w) (s.setWindow m w ((s.window m w).take word)) hbad).2

end Sys2Proof.Machine
end

section
/-! PROOFS. Every row of the table is a `Row`: the commands that complete by calm changes of single records. -/

namespace Sys2Proof.Machine

variable {s : State}

/-! ### Changes of a lease -/

theorem Lease.sameStanding_raise (l : Lease) (kind : NoticeKind) : l.SameStanding (l.raise kind) := by
  constructor <;> rfl

theorem calm_raiseNotice {n : Fin 64} (kind : NoticeKind)
    (h : (s.lease n).state ≠ .free ∨ ∃ c, (s.channel c).governing = some n) : Calm s (s.raiseNotice n kind) :=
  .note n _ (Lease.sameStanding_raise _ _) h (.inl rfl)

/-- A change of options or of the staged term, on a live lease. -/
theorem calm_setLease_of_live {n : Fin 64} {l : Lease} (hlive : (s.lease n).live = true) (hsame : (s.lease n).SameStanding l) :
    Calm s (s.setLease n l) := by
  refine .note n l hsame (.inl fun hfree => ?_) (.inr hlive)
  simp [Lease.live, hfree] at hlive

/-! ### Changes of a generator (chapter 8) -/

section Waves

variable {v : Waveform}

theorem Waveform.kept_iff :
    v.Kept ↔ (v.mode = .level → v.flipFlop = v.level ∧ v.rise = none ∧ v.fall = none)
      ∧ (v.mode ≠ .periodic → v.period = 0 ∧ v.width = 0 ∧ v.staged = none ∧ v.position = 0)
      ∧ (v.mode ≠ .level → v.level = false)
      ∧ (v.mode = .periodic →
          v.rise = none ∧ v.fall = none ∧ 2 ≤ v.period.toNat ∧ 2 ≤ (v.staged.map fun pair => pair.1.toNat).getD 2) :=
  ⟨fun h => ⟨h.level, h.unused, h.levelUnused, h.periodic⟩, fun ⟨h1, h2, h3, h4⟩ => ⟨h1, h2, h3, h4⟩⟩

theorem Waveform.Kept.setMode (h : v.Kept) {named : Mode} {period : Word} (hperiod : named = .periodic → 2 ≤ period.toNat) (width : Word) :
    (v.setMode named period width).Kept := by
  obtain ⟨mode, flipFlop, level, vperiod, vwidth, staged, position, rise, fall⟩ := v
  cases mode <;> cases named <;> simp_all [Waveform.kept_iff, Waveform.setMode]

theorem Waveform.Kept.setLevel (h : v.Kept) (hmode : v.mode = .level) (value : Bool) : (v.setLevel value).Kept := by
  simp_all [Waveform.kept_iff, Waveform.setLevel]

theorem Waveform.Kept.force (h : v.Kept) (value : Bool) : (v.force value).Kept := by
  obtain ⟨mode, flipFlop, level, vperiod, vwidth, staged, position, rise, fall⟩ := v
  cases mode <;> simp_all [Waveform.kept_iff, Waveform.force]

theorem Waveform.Kept.staged (h : v.Kept) (hmode : v.mode = .periodic) {period : Word} (hperiod : period ≠ 1) (width : Word) :
    ({ v with staged := stagedPair period width } : Waveform).Kept := by
  have hlong : period ≠ 0 → 2 ≤ period.toNat := by bv_omega
  by_cases hzero : period = 0 <;> simp_all [Waveform.kept_iff, stagedPair]

theorem Waveform.Kept.armed (h : v.Kept) (hmode : v.mode = .single) (flipFlop : Bool) (rise fall : Option Stamp) :
    ({ v with flipFlop := flipFlop, rise := rise, fall := fall } : Waveform).Kept := by
  simp_all [Waveform.kept_iff]

theorem Waveform.Kept.startPeriod (h : v.Kept) (hmode : v.mode = .periodic) : v.startPeriod.Kept := by
  obtain ⟨-, -, hlevel, hperiodic⟩ := h
  obtain ⟨hrise, hfall, hperiod, hstaged⟩ := hperiodic hmode
  have hnext : 2 ≤ (v.staged.getD (v.period, v.width)).1.toNat := by
    cases e : v.staged with
    | none => exact hperiod
    | some pair => simpa [e] using hstaged
  simp_all [Waveform.kept_iff, Waveform.startPeriod]

theorem Waveform.Kept.widthEdge (h : v.Kept) (hmode : v.mode = .periodic) : ({ v with flipFlop := false } : Waveform).Kept := by
  simp_all [Waveform.kept_iff]

theorem Waveform.kept_rest : Waveform.rest.Kept := by simp [Waveform.kept_iff, Waveform.rest]

theorem Waveform.Kept.advance (h : v.Kept) : v.advance.Kept := by
  obtain ⟨mode, flipFlop, level, vperiod, vwidth, staged, position, rise, fall⟩ := v
  cases mode <;> simp_all [Waveform.kept_iff, Waveform.advance]

end Waves

/-- A lease hears of its channel's generator. -/
theorem calms_notifyGovernor (s : State) (c : Fin 16) (kind : NoticeKind) : Calms s (s.notifyGovernor c kind) := by
  unfold State.notifyGovernor
  split
  next n hn => exact .single (calm_raiseNotice kind (.inr ⟨c, hn⟩))
  next => exact .refl

/-- R136: comparators match in SINGLE mode alone. -/
theorem calms_matchComparators {c : Fin 16} (hmode : (s.channel c).wave.mode = .single) (rise fall : Bool) :
    Calms s (s.matchComparators c rise fall) := by
  have hwave : Calm s (s.setChannel c { s.channel c with wave := (s.channel c).wave.matched rise fall }) :=
    .wave c _ (fun h => h.armed hmode _ _ _) (.inr ⟨by simp [hmode], rfl⟩)
  simp only [State.matchComparators]
  split_ifs
  · exact (Relation.ReflTransGen.single hwave).trans (calms_notifyGovernor _ c .singleDone)
  · exact .single hwave
  · exact .refl

/-- R139, R141: a period starts in PERIODIC mode alone. -/
theorem calms_startPeriod {c : Fin 16} (hmode : (s.channel c).wave.mode = .periodic) : Calms s (s.startPeriod c) := by
  have hwave : Calm s (s.setChannel c { s.channel c with wave := (s.channel c).wave.startPeriod }) :=
    .wave c _ (fun h => h.startPeriod hmode) (.inr ⟨by simp [hmode], rfl⟩)
  simp only [State.startPeriod]
  split
  next n hn =>
    split_ifs
    · exact (Relation.ReflTransGen.single hwave).tail (calm_raiseNotice .boundary (.inr ⟨c, by simpa using hn⟩))
    · exact .single hwave
  next => exact .single hwave

theorem calms_armSingle {c : Fin 16} (hmode : (s.channel c).wave.mode = .single) (rise : Selector) (riseStamp : Stamp)
    (fall : Selector) (fallStamp : Stamp) : Calms s (s.armSingle c rise riseStamp fall fallStamp) := by
  have hwave : Calm s (s.changeWave c fun v => { v with rise := armBy rise riseStamp v.rise, fall := armBy fall fallStamp v.fall }) :=
    .wave c _ (fun h => h.armed hmode _ _ _) (.inr ⟨by simp [hmode], rfl⟩)
  exact (Relation.ReflTransGen.single hwave).trans (calms_matchComparators (by simpa [State.changeWave] using hmode) _ _)

/-! ### The commands on leases and offers -/

theorem row_renew (m : Fin 8) (w : Fin 2) (s : State) : Row s (renewCommand m w s) :=
  row_of_calmOwner (fun _ t _ => answersBy_onLease fun hfree _ hlapsed =>
    answersBy_answer (.single (.renew _ _ (Lease.live_of_ne hfree (hlapsed rfl)))) _ _) s

theorem row_setTerm (m : Fin 8) (w : Fin 2) (s : State) : Row s (setTermCommand m w s) :=
  row_of_calmOwner (fun _ t _ => answersBy_onLease fun hfree _ hlapsed =>
    answersBy_answer (.single (calm_setLease_of_live (Lease.live_of_ne hfree (hlapsed rfl)) (by constructor <;> rfl))) _ _) s

theorem row_setOptions (m : Fin 8) (w : Fin 2) (s : State) : Row s (setOptionsCommand m w s) :=
  row_of_calmOwner (fun _ t _ => answersBy_onLease fun hfree _ hlapsed =>
    answersBy_answer (.single (calm_setLease_of_live (Lease.live_of_ne hfree (hlapsed rfl)) (by constructor <;> rfl))) _ _) s

/-- R74: where no check fails, the channels are IDLE. -/
theorem idle_of_addRefusal_eq_none {m : Fin 8} {set : ChannelSet} (h : s.addRefusal m set = none) :
    ∀ c : Fin 16, set.getLsbD c.val = true → (s.channel c).state = .idle := by
  unfold State.addRefusal at h
  split_ifs at h
  split at h
  · cases h
  split at h
  · cases h
  split at h
  · cases h
  next hnone => exact fun c hc => by simpa using lowestIn_eq_none.1 hnone c hc

theorem row_addChannels (m : Fin 8) (w : Fin 2) (s : State) : Row s (addChannelsCommand m w s) := by
  refine row_of_calmOwner (fun a t _ => answersBy_onLease fun hfree _ hlapsed => ?_) s
  cases hrefusal : t.addRefusal m a[1] with
  | some r => exact answersBy_answer .refl r.1 r.2
  | none =>
    exact answersBy_answer (.single (.add _ _ (Lease.live_of_ne hfree (hlapsed rfl)) (idle_of_addRefusal_eq_none hrefusal))) _ _

/-- R103: where no check fails, the target's list has a place, or the lease in it already. -/
theorem place_of_offerRefusal_eq_none {n : Fin 64} {target : Fin 8} (h : s.offerRefusal n target = none) :
    (s.offerList target).length < 4 ∨ n ∈ s.offerList target := by
  by_contra hnot
  simp only [not_or, Nat.not_lt] at hnot
  have hfull : Config.offerCapacity ≤ (s.offerList target).length ∧ ¬ n ∈ s.offerList target := hnot
  simp only [State.offerRefusal, if_pos hfull] at h
  split_ifs at h
  split at h <;> cases h

theorem row_offer (m : Fin 8) (w : Fin 2) (s : State) : Row s (offerCommand m w s) := by
  refine row_of_calmOwner (fun a t _ => answersBy_onLease fun hfree _ hlapsed => ?_) s
  cases hrefusal : t.offerRefusal (handleLease a[0]) (eightOfWord a[1]) with
  | some r => simpa [hrefusal] using answersBy_answer .refl r.1 r.2
  | none =>
    simpa [hrefusal] using answersBy_answer
      (.single (.offer _ _ (Lease.live_of_ne hfree (hlapsed rfl)) (place_of_offerRefusal_eq_none hrefusal))) _ _

theorem row_withdraw (m : Fin 8) (w : Fin 2) (s : State) : Row s (withdrawCommand m w s) :=
  row_of_calmOwner (fun _ _ _ => answersBy_onLease fun _ _ _ => answersBy_answer (.single (.endOffer _)) _ _) s

/-- R106, check 1: where an offer stands, the record is not FREE and names its target. -/
theorem noOffer_eq_false {m : Fin 8} {h : Word} :
    s.noOffer m h = false ↔
      s.names h (handleLease h) ∧ (s.lease (handleLease h)).offerTarget = some m := by
  simp [State.noOffer, State.names]
  tauto

theorem row_decline (m : Fin 8) (w : Fin 2) (s : State) : Row s (declineCommand m w s) := by
  refine row_of_calmOwner (fun a t _ => ?_) s
  cases hnone : t.noOffer m a[0] with
  | true => simpa [declineOwner, hnone] using answersBy_answer .refl _ _
  | false =>
    obtain ⟨⟨-, -, hfree⟩, -⟩ := noOffer_eq_false.1 hnone
    have hpath : Calms t ((t.endOffer (handleLease a[0])).raiseNotice (handleLease a[0]) .offerDeclined) :=
      (Relation.ReflTransGen.single (.endOffer _)).tail (calm_raiseNotice _ (.inl (by simpa [endOffer_lease] using hfree)))
    simpa [declineOwner, hnone] using answersBy_answer hpath _ _

theorem row_ackNotices (m : Fin 8) (w : Fin 2) (s : State) : Row s (ackNoticesCommand m w s) := by
  refine row_of_calmOwner (fun a t _ => answersBy_onLease fun hfree _ _ => ?_) s
  dsimp only
  split_ifs
  · exact answersBy_answer (.single (.note _ _ (by constructor <;> rfl) (.inl hfree) (.inl rfl))) _ _
  · exact answersBy_answer .refl _ _

/-! ### The queries -/

theorem row_listOffers (m : Fin 8) (w : Fin 2) (s : State) : Row s (listOffersCommand m w s) :=
  row_of_calmOwner (fun _ _ _ => answersBy_answer .refl _ _) s

theorem row_queryLease (m : Fin 8) (w : Fin 2) (s : State) : Row s (queryLeaseCommand m w s) := by
  refine row_of_calmOwner (fun a t _ => ?_) s
  simp only [queryLeaseOwner]
  split_ifs
  · exact answersBy_answer .refl _ _
  · exact answersBy_answer .refl _ _
  all_goals exact answersBy_onLease fun _ _ _ => answersBy_answer .refl _ _

theorem row_findChannel (m : Fin 8) (w : Fin 2) (s : State) : Row s (findChannelCommand m w s) :=
  row_of_calmOwner (fun _ _ _ => answersBy_answer .refl _ _) s

theorem row_queryClaims (m : Fin 8) (w : Fin 2) (s : State) : Row s (queryClaimsCommand m w s) :=
  row_of_calmOwner (fun _ _ _ => answersBy_answer .refl _ _) s

theorem row_queryLine (m : Fin 8) (w : Fin 2) (s : State) : Row s (queryLineCommand m w s) :=
  row_of_calmOwner (fun _ _ _ => answersBy_answer .refl _ _) s

theorem row_nextNotice (m : Fin 8) (w : Fin 2) (s : State) : Row s (nextNoticeCommand m w s) :=
  row_of_calmOwner (fun _ _ _ => answersBy_answer .refl _ _) s

theorem row_readTime (m : Fin 8) (w : Fin 2) (s : State) : Row s (readTimeCommand m w s) :=
  row_of_calmOwner (fun _ _ _ => answersBy_answer .refl _ _) s

/-! ### The waveform commands (R130) -/

/-- A waveform command whose effect is calm on a listed channel in a mode that its check lets through. -/
theorem answersBy_waveform {m : Fin 8} {modeCheck : Mode → Option ResultCode} {act : Fin 16 → State → State} {a : Args}
    (h : ∀ c n, (s.lease n).channels.getLsbD c.val = true → modeCheck (s.channel c).wave.mode = none → Calms s (act c s)) :
    AnswersBy Calms s (waveformOwner m modeCheck act a s) := by
  refine answersBy_onLease fun _ _ _ => ?_
  dsimp only
  split_ifs with hlisted
  · cases hmode : modeCheck (s.channel (channelOfWord a[1])).wave.mode with
    | some code => exact answersBy_answer .refl _ _
    | none => exact answersBy_answer (h _ _ hlisted hmode) _ _
  · exact answersBy_answer .refl _ _

theorem onlyIn_eq_none {mode present : Mode} : onlyIn mode present = none ↔ present = mode := by
  simp [onlyIn]

theorem row_setMode (m : Fin 8) (w : Fin 2) (s : State) : Row s (setModeCommand m w s) := by
  refine row_of_calmOwner (fun a t hbad => ?_) s
  unfold setModeOwner
  refine answersBy_waveform fun c n hlisted _ => ?_
  have hperiod : (modeOfWord a[2]).getD .level = .periodic → 2 ≤ a[3].toNat := by
    intro hnamed
    have htwo : a[2] = 2 := by
      by_contra hother
      simp only [modeOfWord, if_neg hother] at hnamed
      split_ifs at hnamed <;> cases hnamed
    simp [setModeBad, htwo] at hbad
    exact hbad.2
  exact .single (.wave c _ (fun hkept => hkept.setMode hperiod _) (.inl ⟨n, hlisted⟩))

theorem row_setLevel (m : Fin 8) (w : Fin 2) (s : State) : Row s (setLevelCommand m w s) :=
  row_of_calmOwner (fun _ _ _ => answersBy_waveform fun c n hlisted hmode =>
    .single (.wave c _ (fun hkept => hkept.setLevel (onlyIn_eq_none.1 hmode) _) (.inl ⟨n, hlisted⟩))) s

theorem row_armSingle (m : Fin 8) (w : Fin 2) (s : State) : Row s (armSingleCommand m w s) :=
  row_of_calmOwner (fun _ _ _ => answersBy_waveform fun _ _ _ hmode => calms_armSingle (onlyIn_eq_none.1 hmode) _ _ _ _) s

theorem row_stagePeriodic (m : Fin 8) (w : Fin 2) (s : State) : Row s (stagePeriodicCommand m w s) := by
  refine row_of_calmOwner (fun a t hbad => answersBy_waveform fun c n hlisted hmode => ?_) s
  have hperiod : a[2] ≠ 1 := by
    simp [stagePeriodicBad] at hbad
    exact hbad.2
  exact .single (.wave c _ (fun hkept => hkept.staged (onlyIn_eq_none.1 hmode) hperiod _) (.inl ⟨n, hlisted⟩))

theorem row_restartPeriodic (m : Fin 8) (w : Fin 2) (s : State) : Row s (restartPeriodicCommand m w s) :=
  row_of_calmOwner (fun _ _ _ => answersBy_waveform fun _ _ _ hmode => calms_startPeriod (onlyIn_eq_none.1 hmode)) s

theorem row_force (m : Fin 8) (w : Fin 2) (s : State) : Row s (forceCommand m w s) :=
  row_of_calmOwner (fun _ _ _ => answersBy_waveform fun c n hlisted _ =>
    .single (.wave c _ (fun hkept => hkept.force _) (.inl ⟨n, hlisted⟩))) s

/-! ### The commands on the bases, lines and channels -/

theorem row_ackDevice (m : Fin 8) (w : Fin 2) (s : State) : Row s (ackDeviceCommand m w s) :=
  row_of_calmOwner (fun _ t _ => answersBy_answer
    (.single (.settings t.baseA t.baseB .none t.freeze t.resetAsserted t.freeCount t.pending rfl rfl rfl (.inr rfl) id)) _ _) s

/-- A word other than 0 is 1 or more. -/
theorem one_le_toNat_of_ne_zero {v : Word} (h : v ≠ 0) : 1 ≤ v.toNat := by bv_omega

theorem row_setPrescaler (m : Fin 8) (w : Fin 2) (s : State) : Row s (setPrescalerCommand m w s) := by
  refine row_of_calmOwner (fun a t hbad => answersBy_answer (.single ?_) _ _) s
  have hdivisor : a[0] ≠ 0 := by
    simp [setPrescalerBad] at hbad
    exact hbad.1.1
  exact .settings { t.baseA with divisor := a[0], honourFreeze := a[1] == 1 } t.baseB t.deviceNotice t.freeze t.resetAsserted
    t.freeCount t.pending rfl rfl rfl (.inl rfl) fun ⟨_, h⟩ => ⟨one_le_toNat_of_ne_zero hdivisor, h⟩

theorem row_setBaseB (m : Fin 8) (w : Fin 2) (s : State) : Row s (setBaseBCommand m w s) := by
  refine row_of_calmOwner (fun a t hbad => answersBy_answer (.single ?_) _ _) s
  have hdivisor : a[0] ≠ 0 := by
    simp [setBaseBBad] at hbad
    exact hbad.1.1
  exact .settings t.baseA (t.setBaseB a[0] a[1] (a[2] == 1)).baseB t.deviceNotice t.freeze t.resetAsserted
    t.freeCount t.pending rfl rfl rfl (.inl rfl) fun ⟨h1, h2, _, h4⟩ => ⟨h1, h2, one_le_toNat_of_ne_zero hdivisor, h4⟩

theorem row_startBaseB (m : Fin 8) (w : Fin 2) (s : State) : Row s (startBaseBCommand m w s) := by
  refine row_of_calmOwner (fun a t _ => ?_) s
  unfold startBaseBOwner
  split_ifs
  · exact answersBy_answer .refl _ _
  · exact answersBy_answer (.single (.start t)) _ _

theorem row_stopBaseB (m : Fin 8) (w : Fin 2) (s : State) : Row s (stopBaseBCommand m w s) := by
  refine row_of_calmOwner (fun a t _ => ?_) s
  unfold stopBaseBOwner
  split_ifs with hbusy
  · exact answersBy_answer .refl _ _
  · simp only [not_or, not_not] at hbusy
    obtain ⟨hrunning, hlive, hclaims⟩ := hbusy
    refine answersBy_answer (.single (.stop hrunning (fun n hn => ?_) fun q hq => ?_)) _ _
    · simpa [hn] using List.countP_eq_zero.1 hlive n (List.mem_finRange n)
    · simpa using List.countP_eq_zero.1 hclaims q hq

theorem row_configLine (m : Fin 8) (w : Fin 2) (s : State) : Row s (configLineCommand m w s) := by
  refine row_of_calmOwner (fun a t _ => ?_) s
  unfold configLineOwner
  dsimp only
  split
  · exact answersBy_answer .refl _ _
  · exact answersBy_answer (.single (.line _ _ rfl)) _ _

theorem row_configChannel (m : Fin 8) (w : Fin 2) (s : State) : Row s (configChannelCommand m w s) := by
  refine row_of_calmOwner (fun a t hbad => ?_) s
  have hsafe : ¬ ((configOf a).drive = .openDrain ∧ (configOf a).safeLevel = .high) := by
    rintro ⟨hdrive, hhigh⟩
    simp only [configOf_eq] at hdrive hhigh
    have h3 : a[3] = 1 := by
      by_contra h
      rw [if_neg h] at hdrive
      cases hdrive
    have h2 : a[2] = 1 := by
      by_contra h
      rw [if_neg h] at hhigh
      split_ifs at hhigh
    simp [configChannelBad, h2, h3] at hbad
  unfold configChannelOwner
  dsimp only
  split_ifs
  · exact answersBy_answer .refl _ _
  · exact answersBy_answer (.single (.config _ _ hsafe)) _ _

end Sys2Proof.Machine
end

section
/-! PROOFS. Every row of the table is a `Row`: the commands that may end leases, CLAIM, the commands of master 0 on the whole table, the
window controls, the pins and the parts of an A-tick; and what `exec` and `step` do, as sequences of rows. -/

namespace Sys2Proof.Machine

variable {s : State}

/-! ### The commands that may end a lease -/

theorem row_retire (m : Fin 8) (w : Fin 2) (s : State) : Row s (retireCommand m w s) := by
  refine row_of_endingOwner (fun a t _ => answersBy_onLease fun _ _ _ => ?_) s
  dsimp only
  split_ifs
  · exact answersBy_answer .refl _ _
  · exact answersBy_answer (.single (.free _)) _ _

theorem row_purge (m : Fin 8) (w : Fin 2) (s : State) : Row s (purgeCommand m w s) := by
  refine row_of_endingOwner (fun a t _ => answersBy_onLease fun _ _ _ => ?_) s
  dsimp only
  split_ifs
  · exact answersBy_answer .refl _ _
  · exact answersBy_answer (.single (.free _)) _ _

theorem row_revoke (m : Fin 8) (w : Fin 2) (s : State) : Row s (revokeCommand m w s) :=
  row_of_endingOwner (fun _ _ _ => answersBy_onLease fun hfree _ hlapsed =>
    answersBy_answer (.single (.lapse _ _ (.inl (Lease.live_of_ne hfree (hlapsed rfl))))) _ _) s

/-- R106: where no check fails, the offer stands and the target is below its quota. -/
theorem acceptRefusal_eq_none {m : Fin 8} {h : Word} (hnone : s.acceptRefusal m h = none) :
    s.names h (handleLease h) ∧ (s.lease (handleLease h)).offerTarget = some m ∧ (s.master m).count < (s.master m).quota := by
  cases hoffer : s.noOffer m h with
  | true => simp [State.acceptRefusal, hoffer] at hnone
  | false =>
    obtain ⟨hnames, htarget⟩ := noOffer_eq_false.1 hoffer
    refine ⟨hnames, htarget, ?_⟩
    by_contra hfull
    simp only [State.acceptRefusal, hoffer, if_pos (Nat.not_lt.1 hfull)] at hnone
    rw [if_neg Bool.false_ne_true] at hnone
    split at hnone <;> cases hnone

theorem row_accept (m : Fin 8) (w : Fin 2) (s : State) : Row s (acceptCommand m w s) := by
  refine row_of_endingOwner (fun a t _ => ?_) s
  unfold acceptOwner
  cases hrefusal : t.acceptRefusal m a[0] with
  | some r => exact answersBy_answer .refl _ _
  | none =>
    obtain ⟨⟨-, -, hfree⟩, htarget, hquota⟩ := acceptRefusal_eq_none hrefusal
    exact answersBy_answer (.single (.accept _ _ hfree htarget hquota)) _ _

/-- R76: where no check fails, the channels are some of the lease's, and not all. -/
theorem dropRefusal_eq_none {own set : ChannelSet} (h : dropRefusal own set = none) :
    (∀ c : Fin 16, set.getLsbD c.val = true → own.getLsbD c.val = true) ∧ own &&& ~~~set ≠ 0 := by
  unfold dropRefusal at h
  split at h
  · cases h
  split at h
  · cases h
  next hnone =>
    split at h
    · cases h
    next hrest => exact ⟨fun c hc => by simpa using lowestIn_eq_none.1 hnone c hc, hrest⟩

theorem row_dropChannels (m : Fin 8) (w : Fin 2) (s : State) : Row s (dropChannelsCommand m w s) := by
  refine row_of_endingOwner (fun a t _ => answersBy_onLease fun hfree _ hlapsed => ?_) s
  dsimp only
  cases hrefusal : dropRefusal (t.lease (handleLease a[0])).channels a[1] with
  | some r => exact answersBy_answer .refl _ _
  | none =>
    obtain ⟨hsub, hrest⟩ := dropRefusal_eq_none hrefusal
    exact answersBy_answer (.single (.drop _ _ (Lease.live_of_ne hfree (hlapsed rfl)) hsub hrest)) _ _

/-- R86 to R88: what the owner of RELEASE answers. -/
theorem releaseOwner_cases (m : Fin 8) (w : Fin 2) (a : Args) (s : State) :
    (∃ u code items, releaseOwner m w a s = (u, some (code, items)) ∧ Endings s u)
    ∨ ∃ n released drained, drained ≠ 0 ∧ releaseOwner m w a s = ((s.freeLease n).waitForDrain m w released drained, none) := by
  unfold releaseOwner
  cases hc : s.checkHandle m a[0] true true with
  | some code => exact .inl ⟨s, code, [], onLease_of_refused s m _ hc, .refl⟩
  | none =>
    rw [onLease_of_pass s m _ hc]
    dsimp only
    split_ifs with hwait
    · exact .inr ⟨_, _, _, hwait.2, rfl⟩
    · exact .inl ⟨_, _, _, rfl, .single (.free _)⟩

/-- R86 to R88: RELEASE frees its lease, and its window is done or waits for a drain. -/
theorem row_release (m : Fin 8) (w : Fin 2) (s : State) : Row s (releaseCommand m w s) := by
  rcases takeCommand_cases m w 0x0016 never releaseBad (releaseOwner m w) s with
    ⟨-, e⟩ | ⟨hfree, code, e⟩ | ⟨hfree, -, -, -, hends⟩
  · rw [releaseCommand, e, closeEvent_setWindow]
    exact .window m w _ (.collide s m w)
  · rw [releaseCommand, e, State.finish, closeEvent_setWindow]
    exact .window m w _ (.refused hfree (Window.doneWith_answered _ _ _ _))
  · rcases releaseOwner_cases m w (s.args m w) (s.setWindow m w ((s.window m w).take 0x0016)) with
      ⟨u, code, items, ho, hpath⟩ | ⟨n, released, drained, hdrained, ho⟩ <;> simp only [ho, Prod.mk.injEq] at hends
    · obtain ⟨u', code', items', ⟨rfl, -⟩, e⟩ | ⟨u', ⟨-, h⟩, -⟩ := hends
      · exact releaseCommand.eq_1 m w s ▸ e ▸ .closed m w _ _ hfree hpath (.inl (Window.complete_answered _ _ _))
      · cases h
    · obtain ⟨u', code', items', ⟨-, h⟩, -⟩ | ⟨u', ⟨rfl, -⟩, e⟩ := hends
      · cases h
      · refine releaseCommand.eq_1 m w s ▸ e ▸ .closed m w _ _ hfree (.single (.free n)) (.inr ?_)
        constructor <;> simp [Window.take]
        exact hdrained

/-! ### CLAIM -/

/-- R49: a claim that no check refuses. -/
theorem admits_of_claimRefusal_eq_none {q : Claim} {a : Args} (h : s.claimRefusal q a = none) : s.Admits q := by
  unfold State.claimRefusal at h
  split at h
  · cases h
  next hwf =>
  split at h
  · cases h
  split at h
  · cases h
  next hbase =>
  split at h
  · cases h
  split_ifs at h with hline hquota
  refine ⟨(not_or.1 hwf).1, fun hb => by_contra fun hstate => hbase ⟨hb, hstate⟩, fun k hk htaken => ?_, Nat.not_le.1 hquota⟩
  simp only [hk, (lineBusy_iff_lineTaken s k).2 htaken, not_true_eq_false] at hline

/-- R50: a claim that is not grantable now would not be granted behind the claims that wait. -/
theorem not_grantableBehind_of_grantableNow_eq_none {q : Claim} (h : s.grantableNow q = none) : ¬ s.grantableBehind s.claims q := by
  rintro ⟨hchannels, ⟨n, hn⟩, -⟩
  have hidle : s.allIdle q.channels = true := (allIdle_iff s _).2 fun c hc => (hchannels c hc).1
  have hunreserved : lowestIn q.channels s.isReserved = none := by
    refine lowestIn_eq_none.2 fun c hc => ?_
    simpa [State.isReserved] using (hchannels c hc).2
  simp only [State.grantableNow, hidle, hunreserved, Option.isNone_none, Bool.and_self, if_true] at h
  exact (lowestFree_eq_none s).1 h n hn

theorem grantableNow_eq_some {q : Claim} {n : Fin 64} (h : s.grantableNow q = some n) :
    (∀ c : Fin 16, q.channels.getLsbD c.val = true → (s.channel c).state = .idle) ∧ (s.lease n).state = .free := by
  unfold State.grantableNow at h
  split_ifs at h with hfree
  exact ⟨(allIdle_iff s _).1 (Bool.and_eq_true_iff.1 hfree).1, ((lowestFree_eq_some s).1 h).1⟩

theorem grant_setWindow (q : Claim) (n : Fin 64) (m : Fin 8) (w : Fin 2) (x : Window) :
    (s.setWindow m w x).grant q n = (s.grant q n).setWindow m w x := by
  obtain ⟨master, window, channels, base, term, grace, graceAction, urgency, boundaryNotices, line, deadline, arrival⟩ := q
  cases base <;> cases line <;> rfl

/-- R49 to R52: what the owner of CLAIM answers once no check refuses the claim. -/
theorem claimOwner_of_admitted {m : Fin 8} {w : Fin 2} {a : Args} (h : s.claimRefusal (claimOf m w a) a = none) :
    (∃ code items, claimOwner m w a s = (s, some (code, items)))
    ∨ (∃ n items, s.grantableNow (claimOf m w a) = some n ∧ claimOwner m w a s = (s.grant (claimOf m w a) n, some (.ok, items)))
    ∨ (s.grantableNow (claimOf m w a) = none ∧ s.claims.length < 12
        ∧ claimOwner m w a s = (s.joinQueue (claimOf m w a) (claimWaitLimit a), none)) := by
  simp only [claimOwner, h]
  cases hnow : s.grantableNow (claimOf m w a) with
  | some n => exact .inr (.inl ⟨n, _, rfl, rfl⟩)
  | none =>
    dsimp only
    split_ifs with hlimit hfull
    · exact .inl ⟨_, _, rfl⟩
    · exact .inl ⟨_, _, rfl⟩
    · exact .inr (.inr ⟨rfl, Nat.not_le.1 hfull, rfl⟩)

/-- R49 to R52. -/
theorem row_claim (m : Fin 8) (w : Fin 2) (s : State) : Row s (claimCommand m w s) := by
  unfold claimCommand
  rcases takeCommand_cases m w 0x0010 never claimBad (claimOwner m w) s with
    ⟨-, e⟩ | ⟨hfree, code, e⟩ | ⟨hfree, -, -, -, hends⟩
  · exact e ▸ .window m w _ (.collide s m w)
  · exact e ▸ .window m w _ (.refused hfree (Window.doneWith_answered _ _ _ _))
  have unchanged {code : ResultCode} {items : List Word}
      (ho : claimOwner m w (s.args m w) (s.setWindow m w ((s.window m w).take 0x0010)) =
        (s.setWindow m w ((s.window m w).take 0x0010), some (code, items))) :
      Row s (takeCommand m w 0x0010 never claimBad (claimOwner m w) s) := by
    obtain ⟨u, code', items', h, e⟩ | ⟨u, h, -⟩ := hends <;> rw [ho] at h <;> cases h
    exact e ▸ .answered m w _ _ hfree .refl (Window.complete_answered _ _ _)
  have hsame : (s.setWindow m w ((s.window m w).take 0x0010)).claimRefusal (claimOf m w (s.args m w)) (s.args m w) =
    s.claimRefusal (claimOf m w (s.args m w)) (s.args m w) := rfl
  cases hrefusal : s.claimRefusal (claimOf m w (s.args m w)) (s.args m w) with
  | some r =>
    refine unchanged (code := r.1) (items := r.2) ?_
    simp only [claimOwner, hsame, hrefusal]
    rfl
  | none =>
    have hadmits := admits_of_claimRefusal_eq_none hrefusal
    rcases claimOwner_of_admitted (hsame.trans hrefusal) with ⟨code, items, ho⟩ | ⟨n, items, hnow, ho⟩ | ⟨hnow, hlength, ho⟩
    · exact unchanged ho
    · obtain ⟨hidle, hn⟩ := grantableNow_eq_some (s := s) hnow
      obtain ⟨u, code', items', h, e⟩ | ⟨u, h, -⟩ := hends <;> rw [ho] at h <;> cases h
      rw [e, grant_setWindow, State.complete, setWindow_setWindow]
      exact .granted m w _ _ n hfree (Window.complete_answered _ _ _) hadmits hidle hn
    · obtain ⟨u, code', items', h, -⟩ | ⟨u, h, e⟩ := hends <;> rw [ho] at h <;> cases h
      rw [e]
      exact .joined m w _ { claimOf m w (s.args m w) with
          deadline := s.waitDeadline (claimWaitLimit (s.args m w)), arrival := s.arrivals + 1 } (s.arrivals + 1) hfree
        (by constructor <;> simp [Window.take]) rfl rfl hlength ⟨hadmits.1, hadmits.2, hadmits.3, hadmits.4⟩
        (not_grantableBehind_of_grantableNow_eq_none (s := s) hnow)

end Sys2Proof.Machine
end

section
/-! PROOFS. Every row of the table is a `Row`: the commands of master 0 on masters and the whole table, the port's other writes, the
pins and the parts of an A-tick. -/

namespace Sys2Proof.Machine

variable {s : State}

/-! ### CONFIG_MASTER -/

/-- R169: either form writes the record of one master, whose role and count stay, and whose quota the port has checked. -/
theorem configMasterOwner_cases {m : Fin 8} {a : Args} (hbad : configMasterBad a = false) (s : State) :
    ∃ k r items, (if a[0] = 0 then configMasterSupervisorOwner a s else configMasterSelfOwner m a s)
        = (s.setMaster k r, some (.ok, items))
      ∧ r.count = (s.master k).count ∧ r.role = (s.master k).role ∧ ((s.master k).enabled = true → r.enabled = true)
      ∧ ((s.master k).quota ≤ 64 → r.quota ≤ 64) := by
  split_ifs with hform
  · refine ⟨_, _, _, rfl, rfl, rfl, fun h => ?_, fun _ => ?_⟩
    · simp [Master.configured, h]
    · simp [configMasterBad, hform, supervisorFormBad] at hbad
      exact hbad.1.1.2
  · exact ⟨_, _, _, rfl, rfl, rfl, id, id⟩

theorem row_configMaster (m : Fin 8) (w : Fin 2) (s : State) : Row s (configMasterCommand m w s) := by
  unfold configMasterCommand
  rcases takeCommand_cases m w 0x0070 configMasterReserved configMasterBad
      (fun a s => if a[0] = 0 then configMasterSupervisorOwner a s else configMasterSelfOwner m a s) s with
    ⟨-, e⟩ | ⟨hfree, code, e⟩ | ⟨hfree, -, -, hbad, hends⟩
  · rw [e, closeEvent_setWindow]
    exact .window m w _ (.collide s m w)
  · rw [e, State.finish, closeEvent_setWindow]
    exact .window m w _ (.refused hfree (Window.doneWith_answered _ _ _ _))
  · obtain ⟨k, r, items, ho, hcount, hrole, henabled, hquota⟩ :=
      configMasterOwner_cases hbad (m := m) (s.setWindow m w ((s.window m w).take 0x0070))
    obtain ⟨u, code', items', h, e⟩ | ⟨u, h, -⟩ := hends <;> rw [ho] at h <;> cases h
    rw [e]
    exact .configured m w _ _ hfree k r hcount hrole henabled hquota (Window.complete_answered _ _ _)

/-! ### DISABLE_MASTER -/

/-- R96: the leases of a master are freed one by one, and none is left. -/
theorem foldl_freeLeases (t : Fin 8) (l : List (Fin 64)) (s : State) :
    let u := l.foldl (fun u n => if (u.lease n).holder = some t then u.freeLease n else u) s
    Endings s u ∧ (∀ n ∈ l, (u.lease n).holder ≠ some t)
      ∧ ∀ n, (s.lease n).holder ≠ some t → (u.lease n).holder ≠ some t := by
  induction l generalizing s with
  | nil => exact ⟨.refl, by simp, fun _ h => h⟩
  | cons x l ih =>
    rw [List.foldl_cons]
    have hkeeps (n : Fin 64) (h : (s.lease n).holder ≠ some t) : ((s.freeLease x).lease n).holder ≠ some t := by
      rw [freeLease_lease]
      split_ifs
      · simp [Lease.rest]
      · exact h
    split_ifs with hx
    · obtain ⟨hpath, hnone, hkept⟩ := ih (s.freeLease x)
      have hgone : ((s.freeLease x).lease x).holder ≠ some t := by simp [freeLease_lease, Lease.rest]
      exact ⟨.head (.free x) hpath, List.forall_mem_cons.2 ⟨hkept x hgone, hnone⟩, fun n h => hkept n (hkeeps n h)⟩
    · obtain ⟨hpath, hnone, hkept⟩ := ih s
      exact ⟨hpath, List.forall_mem_cons.2 ⟨hkept x hx, hnone⟩, hkept⟩

theorem endings_freeLeasesOf (t : Fin 8) (s : State) :
    Endings s (s.freeLeasesOf t) ∧ ∀ n, ((s.freeLeasesOf t).lease n).holder ≠ some t := by
  obtain ⟨hpath, hnone, -⟩ := foldl_freeLeases t (List.finRange 64) s
  exact ⟨hpath, fun n => hnone n (List.mem_finRange n)⟩

theorem withdrawOffersTo_holder (t : Fin 8) (n : Fin 64) (s : State) :
    ((s.withdrawOffersTo t).lease n).holder = (s.lease n).holder := by
  rw [withdrawOffersTo_lease]
  split_ifs <;> rfl

/-- R170: the port lets no number through that names master 0. -/
theorem eightOfWord_ne_zero {a : Args} (hbad : disableMasterBad a = false) : eightOfWord a[0] ≠ 0 := by
  simp only [disableMasterBad, Bool.or_eq_false_iff, beq_eq_false_iff_ne, decide_eq_false_iff_not, Nat.not_lt] at hbad
  obtain ⟨hzero, hrange⟩ := hbad
  have := one_le_toNat_of_ne_zero hzero
  simp only [eightOfWord, ne_eq, Fin.ext_iff, Fin.val_zero]
  omega

theorem row_disableMaster (m : Fin 8) (w : Fin 2) (s : State) : Row s (disableMasterCommand m w s) := by
  unfold disableMasterCommand
  rcases takeCommand_cases m w 0x0071 always disableMasterBad disableMasterOwner s with
    ⟨-, e⟩ | ⟨hfree, code, e⟩ | ⟨hfree, -, -, hbad, hends⟩
  · rw [e, closeEvent_setWindow]
    exact .window m w _ (.collide s m w)
  · rw [e, State.finish, closeEvent_setWindow]
    exact .window m w _ (.refused hfree (Window.doneWith_answered _ _ _ _))
  · obtain ⟨u, code', items', h, e⟩ | ⟨u, h, e⟩ := hends <;> rw [e] <;> simp only [disableMasterOwner] at h <;>
      split_ifs at h with henabled
    · obtain ⟨rfl, -⟩ := Prod.mk.inj h
      obtain ⟨hpath, hnone⟩ := endings_freeLeasesOf (eightOfWord (s.args m w)[0]) (s.setWindow m w ((s.window m w).take 0x0071))
      rw [State.disableMaster, State.complete]
      generalize (s.setWindow m w ((s.window m w).take 0x0071)).freeLeasesOf (eightOfWord (s.args m w)[0]) = u at hpath hnone ⊢
      exact .disabled m w _ _ _ hfree (eightOfWord_ne_zero hbad) (hpath.tail (.withdraw _))
        (fun n => by rw [withdrawOffersTo_holder]; exact hnone n) (Window.complete_answered _ _ _)
    · obtain ⟨rfl, -⟩ := Prod.mk.inj h
      exact .closed m w _ _ hfree .refl (.inl (Window.complete_answered _ _ _))
    all_goals cases (Prod.mk.inj h).2

/-! ### RESET_TABLE -/

/-- What a window held before it is set does not matter. -/
theorem setWindow_congr {m : Fin 8} {w : Fin 2} {windows : Vector Window 16} (y : Window)
    (h : ∀ k v, ¬ (k = m ∧ v = w) → ({ s with windows := windows } : State).window k v = s.window k v) :
    ({ s with windows := windows } : State).setWindow m w y = s.setWindow m w y := by
  apply State.ext_records
  case hw =>
    intro k v
    rw [setWindow_window, setWindow_window]
    by_cases hkv : k = m ∧ v = w
    · rw [if_pos hkv, if_pos hkv]
    · rw [if_neg hkv, if_neg hkv, h k v hkv]
  all_goals intros; rfl

theorem resetTable_window (k : Fin 8) (v : Fin 2) :
    s.resetTable.window k v = (s.window k v).endWait (s.claims.any fun q => q.isIn k v) :=
  mapWindows_window s (fun m w x => x.endWait (s.claims.any fun q => q.isIn m w)) k v

/-- What a table reset makes of a window does not depend on the one that the command's own window holds meanwhile. -/
theorem resetTable_setWindow (m : Fin 8) (w : Fin 2) (x y : Window) :
    (s.setWindow m w x).resetTable.setWindow m w y = s.resetTable.setWindow m w y := by
  have hframe : (s.setWindow m w x).resetTable = { s.resetTable with windows := (s.setWindow m w x).resetTable.windows } := rfl
  rw [hframe]
  refine setWindow_congr y fun k v hkv => ?_
  rw [← hframe, resetTable_window, resetTable_window, setWindow_window, if_neg hkv, setWindow_claims]

theorem row_resetTable (m : Fin 8) (w : Fin 2) (s : State) : Row s (resetTableCommand m w s) := by
  unfold resetTableCommand
  rcases takeCommand_cases m w 0x003F always never (fun _ s => answer s.resetTable .ok) s with
    ⟨-, e⟩ | ⟨hfree, code, e⟩ | ⟨hfree, -, -, -, ⟨u, code, items, h, e⟩ | ⟨u, h, -⟩⟩
  · exact e ▸ .window m w _ (.collide s m w)
  · exact e ▸ .window m w _ (.refused hfree (Window.doneWith_answered _ _ _ _))
  · obtain ⟨rfl, -⟩ := Prod.mk.inj h
    rw [e, State.complete, resetTable_setWindow]
    exact .tableReset m w _ hfree (Window.complete_answered _ _ _)
  · cases (Prod.mk.inj h).2

/-! ### The port's other writes -/

theorem row_takeUnknown (m : Fin 8) (w : Fin 2) (word : Word) (s : State) : Row s (takeUnknown m w word s) := by
  unfold takeUnknown
  dsimp only
  split_ifs with hbusy
  · exact .window m w _ (.collide s m w)
  · exact .window m w _ (.refused hbusy (Window.complete_answered _ _ _))

theorem row_ite {p : Prop} [Decidable p] {t u : State} (ht : Row s t) (hu : Row s u) : Row s (if p then t else u) := by
  split_ifs
  · exact ht
  · exact hu

theorem row_writeCommandWord (m : Fin 8) (w : Fin 2) (word : Word) (s : State) : Row s (writeCommandWord m w word s) :=
  row_ite (row_claim m w s) <| row_ite (row_renew m w s) <| row_ite (row_setTerm m w s) <| row_ite (row_setOptions m w s) <|
  row_ite (row_addChannels m w s) <| row_ite (row_dropChannels m w s) <| row_ite (row_release m w s) <|
  row_ite (row_retire m w s) <| row_ite (row_offer m w s) <| row_ite (row_withdraw m w s) <| row_ite (row_accept m w s) <|
  row_ite (row_decline m w s) <| row_ite (row_setMode m w s) <| row_ite (row_setLevel m w s) <|
  row_ite (row_armSingle m w s) <| row_ite (row_stagePeriodic m w s) <| row_ite (row_restartPeriodic m w s) <|
  row_ite (row_force m w s) <| row_ite (row_queryLease m w s) <| row_ite (row_findChannel m w s) <|
  row_ite (row_queryClaims m w s) <| row_ite (row_queryLine m w s) <| row_ite (row_listOffers m w s) <|
  row_ite (row_revoke m w s) <| row_ite (row_purge m w s) <| row_ite (row_resetTable m w s) <|
  row_ite (row_nextNotice m w s) <| row_ite (row_ackNotices m w s) <| row_ite (row_ackDevice m w s) <|
  row_ite (row_readTime m w s) <| row_ite (row_setPrescaler m w s) <| row_ite (row_setBaseB m w s) <|
  row_ite (row_startBaseB m w s) <| row_ite (row_stopBaseB m w s) <| row_ite (row_configLine m w s) <|
  row_ite (row_configChannel m w s) <| row_ite (row_configMaster m w s) <| row_ite (row_disableMaster m w s) <|
  row_takeUnknown m w word s

theorem row_commandCollision (m : Fin 8) (w : Fin 2) (word : Word) (s : State) :
    Row s (if (s.window m w).state = .busy then s.setWindow m w (s.window m w).collide else writeCommandWord m w word s) := by
  split_ifs
  · exact .window m w _ (.collide s m w)
  · exact row_writeCommandWord m w word s

theorem row_abort (m : Fin 8) (w : Fin 2) (s : State) : Row s (abortControl m w s) := by
  have hrefused : Row s (s.setWindow m w (s.window m w).refuseAbort) := .window m w _ (.flags rfl rfl rfl rfl rfl rfl)
  unfold abortControl
  dsimp only
  split_ifs with hbusy hclaim hdrain
  · exact .ended _ _ .refl
  · exact .window m w _ (.drainAborted (fun q hq hin => hclaim (any_isIn_iff.2 ⟨q, hq, hin⟩))
      ⟨rfl, Option.some_ne_none _, rfl⟩)
  · exact hrefused
  · exact hrefused

theorem row_resultTaken (m : Fin 8) (w : Fin 2) (s : State) : Row s (resultTakenControl m w s) := by
  refine .window m w _ ?_
  cases h : (s.window m w).state with
  | idle => rw [Window.resultTaken_of_idle h]; exact .flags rfl rfl rfl rfl rfl rfl
  | busy => rw [Window.resultTaken_of_busy h]; exact .collide s m w
  | done => rw [Window.resultTaken_of_done h]; exact .taken h rfl rfl rfl rfl rfl rfl

theorem row_writeArgument (m : Fin 8) (w : Fin 2) (index : Fin 8) (value : Word) (s : State) :
    Row s (writeArgument m w index value s) := by
  refine .window m w _ ?_
  unfold Window.writeArgument
  split_ifs
  · exact .collide s m w
  · exact .flags rfl rfl rfl rfl rfl rfl

theorem row_busWrite (m : Fin 8) (address : BitVec 6) (value : Word) (s : State) : Row s (busWrite m address value s) := by
  unfold busWrite
  generalize (if address.getLsbD 5 then 1 else 0 : Fin 2) = w
  dsimp only
  split_ifs
  exacts [row_writeArgument .., row_writeCommandWord .., row_abort .., row_resultTaken .., .windowReset .., .refl s, .refl s]

/-! ### The pins -/

/-- A change of the settings alone, in the state's own fields. -/
theorem calm_of_settings {t : State}
    (ht : t =
      { s with
        baseA := t.baseA, baseB := t.baseB, deviceNotice := t.deviceNotice, freeze := t.freeze
        resetAsserted := t.resetAsserted, freeCount := t.freeCount, pending := t.pending })
    (hcounterA : t.baseA.counter = s.baseA.counter) (hcounterB : t.baseB.counter = s.baseB.counter)
    (hstate : t.baseB.state = s.baseB.state) (hnotice : t.deviceNotice = s.deviceNotice)
    (hdivisors : s.divisorsKept → t.divisorsKept) : Calm s t :=
  ht ▸ .settings _ _ _ _ _ _ _ hcounterA hcounterB hstate (.inl hnotice) hdivisors

theorem row_setFreeze (asserted : Bool) (s : State) : Row s (s.setFreeze asserted) := by
  unfold State.setFreeze
  split_ifs <;> exact .of_calm (calm_of_settings rfl rfl rfl rfl rfl id)

theorem row_trefEdge (s : State) : Row s s.trefEdge := by
  unfold State.trefEdge
  split_ifs
  · exact .of_calm (calm_of_settings rfl rfl rfl rfl rfl id)
  · exact .refl s

theorem row_clockPeriod (s : State) : Row s s.clockPeriod := by
  unfold State.clockPeriod
  split_ifs
  · exact .refl s
  · exact .of_calm (calm_of_settings rfl rfl rfl rfl rfl id)

theorem calm_edgeArrives (s : State) (k : Fin 8) (rising : Bool) : Calm s (s.edgeArrives k rising) := .line k _ rfl

theorem calms_edgeTaken (s : State) (k : Fin 8) : Calms s (s.edgeTaken k) := by
  unfold State.edgeTaken
  split
  · exact .refl
  next x rest _ =>
    have hline : Calm s (s.setLine k { s.line k with captured := rest, lastEdge := x.stampA }) := .line k _ rfl
    dsimp only
    split
    · split_ifs with hlive
      · exact (Relation.ReflTransGen.single hline).tail (.renew _ _ hlive)
      · exact .single hline
    · exact .single hline

theorem row_lineEdge (k : Fin 8) (rising : Bool) (phase : EdgePhase) (s : State) : Row s (s.lineEdge k rising phase) := by
  cases phase with
  | arrives => exact .of_calm (calm_edgeArrives s k rising)
  | isTaken => exact .calm (calms_edgeTaken s k)
  | arrivesAndIsTaken =>
    simp only [State.lineEdge]
    split_ifs
    · exact .calm (.head (calm_edgeArrives s k rising) (calms_edgeTaken _ k))
    · exact .of_calm (calm_edgeArrives s k rising)

theorem row_edgeInReset (k : Fin 8) (rising : Bool) (phase : EdgePhase) (s : State) : Row s (s.edgeInReset k rising phase) := by
  unfold State.edgeInReset
  split_ifs
  · exact .refl s
  · exact .of_calm (.line k _ rfl)

/-! ### Expiry events and the parts of an A-tick -/

/-- R40 to R42. -/
theorem row_takeExpiry (base : Base) (s : State) : Row s (s.takeExpiry base) := by
  unfold State.takeExpiry
  split
  · exact .refl s
  · dsimp only
    split_ifs with _ hgrace hlive
    · exact .of_calm (.grace _ hgrace.1)
    · exact .lapsed (.single (.lapse _ _ (.inl hlive)))
    · exact .refl s
    · exact .refl s

theorem row_takeComparators (c : Fin 16) (s : State) : Row s (s.takeComparators c) := by
  unfold State.takeComparators
  split_ifs with hdue
  · simp only [State.comparatorDue, Bool.and_eq_true, beq_iff_eq] at hdue
    exact .calm (calms_matchComparators hdue.1 _ _)
  · exact .refl s

theorem row_takeWidthEdge (c : Fin 16) (s : State) : Row s (s.takeWidthEdge c) := by
  unfold State.takeWidthEdge
  split_ifs with hdue
  · simp only [State.widthEdgeDue, Bool.and_eq_true, beq_iff_eq] at hdue
    obtain ⟨⟨⟨hmode, -⟩, -⟩, -⟩ := hdue
    exact .of_calm (.wave c _ (fun h => h.widthEdge hmode) (.inr ⟨by simp [hmode], rfl⟩))
  · exact .refl s

theorem row_takeBoundary (c : Fin 16) (s : State) : Row s (s.takeBoundary c) := by
  unfold State.takeBoundary
  split_ifs with hdue
  · simp only [State.boundaryDue, Waveform.atBoundary, Bool.and_eq_true, beq_iff_eq] at hdue
    obtain ⟨-, ⟨hmode, -⟩, -⟩ := hdue
    exact .calm (calms_startPeriod hmode)
  · exact .refl s

theorem row_takeDrainEnd (c : Fin 16) (s : State) : Row s (s.takeDrainEnd c) := by
  unfold State.takeDrainEnd
  split_ifs with hdue
  · exact .drained c hdue
  · exact .refl s

theorem row_takeWaitDeadlines (s : State) : Row s s.takeWaitDeadlines := by
  unfold State.takeWaitDeadlines
  split_ifs
  · exact .ended _ _ .refl
  · exact .refl s

/-! A stall event ends claims and leases of base B, and then stalls it; the order of these effects does not show. -/

theorem foldl_lapse_baseB (l : List (Fin 64)) (why : EndReason) (b : BaseB) (s : State) :
    l.foldl (fun t n => t.lapse n why) { s with baseB := b } = { l.foldl (fun t n => t.lapse n why) s with baseB := b } := by
  induction l generalizing s with
  | nil => rfl
  | cons n l ih =>
    have hone : ({ s with baseB := b }).lapse n why = { s.lapse n why with baseB := b } := by
      simp only [lapse_eq_lapsedBy]
      rfl
    rw [List.foldl_cons, List.foldl_cons, hone, ih]

theorem foldl_lapse_endClaims (l : List (Fin 64)) (why : EndReason) (p : Claim → Bool) (code : ResultCode) (s : State) :
    (l.foldl (fun t n => t.lapse n why) s).endClaims p code = l.foldl (fun t n => t.lapse n why) (s.endClaims p code) := by
  induction l generalizing s with
  | nil => rfl
  | cons n l ih =>
    have hone : (s.endClaims p code).lapse n why = (s.lapse n why).endClaims p code := by
      simp only [lapse_eq_lapsedBy]
      rfl
    rw [List.foldl_cons, List.foldl_cons, hone, ih]

/-- R44: the leases of a list lapse one by one; no lease enters queue B meanwhile. -/
theorem foldl_lapse_endings (why : EndReason) (l : List (Fin 64)) (s : State)
    (hl : ∀ n ∈ l, n ∈ s.expiryB ∨ (s.lease n).state = .lapsed) :
    let u := l.foldl (fun t n => t.lapse n why) s
    Endings s u ∧ (∀ n, n ∈ l ∨ (s.lease n).state = .lapsed → (u.lease n).state = .lapsed) ∧ u.expiryB ⊆ s.expiryB
      ∧ u.claims = s.claims ∧ u.baseB = s.baseB := by
  induction l generalizing s with
  | nil => exact ⟨.refl, fun n h => by simpa using h, fun _ h => h, rfl, rfl⟩
  | cons x l ih =>
    obtain ⟨hx, hl⟩ := List.forall_mem_cons.1 hl
    have hstate (n : Fin 64) : ((s.lapse x why).lease n).state = if n = x then .lapsed else (s.lease n).state := by
      rw [lapse_lease]
      split_ifs <;> rfl
    have hqueue (n : Fin 64) (h : n ∈ (s.lapse x why).expiryB) : n ∈ s.expiryB := by
      have hq : (s.lapse x why).expiryB = (s.detach x).expiryQueue .b := (lapse_keeps s x why).2.2.2.2.2.1 .b
      rw [hq, detach_expiryQueue] at h
      split_ifs at h
      · exact List.mem_of_mem_filter h
      · exact h
    have hstays (n : Fin 64) (hn : n ≠ x) (h : n ∈ s.expiryB) : n ∈ (s.lapse x why).expiryB := by
      have hq : (s.lapse x why).expiryB = (s.detach x).expiryQueue .b := (lapse_keeps s x why).2.2.2.2.2.1 .b
      rw [hq, detach_expiryQueue]
      split_ifs
      · exact List.mem_filter.2 ⟨h, by simpa using hn⟩
      · exact h
    have hnext : ∀ n ∈ l, n ∈ (s.lapse x why).expiryB ∨ ((s.lapse x why).lease n).state = .lapsed := by
      intro n hn
      rw [hstate]
      by_cases hnx : n = x
      · exact .inr (if_pos hnx)
      · rw [if_neg hnx]
        exact (hl n hn).imp_left (hstays n hnx)
    obtain ⟨hpath, hlapsed, hsub, hclaims, hbase⟩ := ih (s.lapse x why) hnext
    refine ⟨.head (.lapse x why (.inr hx)) hpath, fun n h => hlapsed n ?_, 
      fun n h => hqueue n (hsub h), by simpa using hclaims, by simpa using hbase⟩
    rw [hstate]
    by_cases hnx : n = x
    · exact .inr (if_pos hnx)
    · rw [if_neg hnx]
      simpa [hnx] using h

theorem row_takeStall (s : State) : Row s s.takeStall := by
  unfold State.takeStall
  split_ifs
  swap
  · exact .refl s
  obtain ⟨hpath, hlapsed, hsub, hclaims, hbase⟩ := foldl_lapse_endings .baseStalled s.expiryB
    (s.endClaims (fun q => q.base == .b) .baseUnavailable) fun n h => .inl h
  rw [← foldl_lapse_endClaims] at hpath hlapsed hsub hclaims hbase
  dsimp only
  rw [foldl_lapse_baseB]
  generalize s.expiryB.foldl (fun t n => t.lapse n .baseStalled) s = u at *
  refine .ended _ _ (hpath.tail ?_)
  have hstall := Ending.stall (s := u.endClaims (fun q => q.base == .b) .baseUnavailable)
    (fun n h => hlapsed n (.inl (hsub h))) (fun q hq => by rw [hclaims] at hq; simpa using (List.mem_filter.1 hq).2)
  rw [hbase] at hstall
  exact hstall

end Sys2Proof.Machine
end

section
/-! PROOFS. What `exec` and `step` do, as sequences of rows; the scan as a sequence of grants; and how a condition that each kind of
change keeps is kept by every step. -/

namespace Sys2Proof.Machine

variable {s t : State}

/-! ### The closing of a tick, as rows (log 3, log 4) -/

theorem row_takePart (p : TickPart) (s : State) : Row s (s.takePart p) := by
  cases p with
  | stall => exact row_takeStall s
  | deadlines => exact row_takeWaitDeadlines s
  | comparators c => exact row_takeComparators c s
  | widthEdge c => exact row_takeWidthEdge c s
  | boundary c => exact row_takeBoundary c s
  | drainEnd c => exact row_takeDrainEnd c s

theorem rows_closeParts (fuel : Nat) (s : State) : Rows s (s.closeParts fuel) := by
  induction fuel generalizing s with
  | zero => exact .refl
  | succ fuel ih =>
    unfold State.closeParts
    split
    · exact .refl
    · exact .head (row_takePart _ s) (ih _)
    · have hcount : Row s { s with freeCount := s.freeCount + 1 } := .of_calm (calm_of_settings rfl rfl rfl rfl rfl id)
      exact .head hcount (.head (row_takePart _ _) (ih _))

theorem rows_takeGenerators (s : State) : Rows s s.takeGenerators := by
  unfold State.takeGenerators
  generalize List.finRange 16 = l
  induction l generalizing s with
  | nil => exact .refl
  | cons c l ih =>
    exact .head (row_takeComparators c s) (.head (row_takeWidthEdge c _) (.head (row_takeBoundary c _) (ih _)))

theorem rows_closeTick (s : State) : Rows s.startTicks s.closeTick := by
  unfold State.closeTick
  dsimp only
  split_ifs
  · exact rows_closeParts _ _
  · exact (rows_takeGenerators _).trans (rows_closeParts _ _)

/-! ### What a step does -/

/-- The ticks with which a step may begin: at most one of each base. -/
def Begun (s t : State) : Prop := t = s ∨ t = s.advanceA ∨ t = s.advanceB ∨ t = s.advanceA.advanceB

theorem begun_startTicks (s : State) : Begun s s.startTicks := by
  unfold State.startTicks
  dsimp only
  split_ifs
  · exact .inr (.inr (.inr rfl))
  · exact .inr (.inl rfl)
  · exact .inr (.inr (.inl rfl))
  · exact .inl rfl

/-- A row that is taken at once, within an A-tick or after the closing of one. -/
inductive TakenAs (i : Instr) : Prop
  | event (f : State → State) (hexec : ∀ s, exec i s = Machine.event f s) (hrow : ∀ s, Row s (f s))
  | tickEvent (f : State → State) (hexec : ∀ s, exec i s = Machine.tickEvent f s) (hrow : ∀ s, Row s (f s))
  | tick (hexec : ∀ s, exec i s = .next s ∨ (s.resetAsserted = false ∧ s.aTickDue = true ∧ exec i s = .next s.advanceA))
  | pin (f g : State → State) (hexec : ∀ s, exec i s = if s.resetAsserted then .next (f s) else Machine.event g s)
      (hf : ∀ s, Row s (f s)) (hg : ∀ s, Row s (g s))
  | resetReleased (h : i = .resetN false)
  | resetAsserted (h : i = .resetN true)

/-- Every row of the table is taken in one of these ways. -/
theorem takenAs (i : Instr) : TakenAs i := by
  cases i
  case resetN asserted =>
    cases asserted
    · exact .resetReleased rfl
    · exact .resetAsserted rfl
  case freeze asserted =>
    exact .pin (fun s => { s with freeze := asserted }) _ (fun _ => rfl)
      (fun s => .of_calm (calm_of_settings rfl rfl rfl rfl rfl id)) (row_setFreeze asserted)
  case renewLineEdge k rising phase =>
    exact .pin _ _ (exec_renewLineEdge k rising phase) (row_edgeInReset k rising phase) (row_lineEdge k rising phase)
  case aTick =>
    refine .tick fun s => ?_
    simp only [exec, execATick]
    split_ifs with hreset hdue
    · exact .inl rfl
    · exact .inr ⟨by simpa using hreset, hdue, rfl⟩
    · exact .inl rfl
  case bTick => exact .tickEvent _ exec_bTick Row.refl
  case expiryEvent base => exact .tickEvent _ (exec_expiryEvent base) (row_takeExpiry base)
  case stallEvent => exact .tickEvent _ exec_stallEvent row_takeStall
  case waitDeadline => exact .tickEvent _ exec_waitDeadline row_takeWaitDeadlines
  case comparatorMatch c => exact .tickEvent _ (exec_comparatorMatch c) (row_takeComparators c)
  case widthEdge c => exact .tickEvent _ (exec_widthEdge c) (row_takeWidthEdge c)
  case boundary c => exact .tickEvent _ (exec_boundary c) (row_takeBoundary c)
  case drainEnd c => exact .tickEvent _ (exec_drainEnd c) (row_takeDrainEnd c)
  case trefEdge => exact .event _ exec_trefEdge row_trefEdge
  case systemClockPeriod => exact .event _ exec_systemClockPeriod row_clockPeriod
  case claim m w => exact .event _ (exec_claim m w) (row_claim m w)
  case renew m w => exact .event _ (exec_renew m w) (row_renew m w)
  case setTerm m w => exact .event _ (exec_setTerm m w) (row_setTerm m w)
  case setOptions m w => exact .event _ (exec_setOptions m w) (row_setOptions m w)
  case addChannels m w => exact .event _ (exec_addChannels m w) (row_addChannels m w)
  case dropChannels m w => exact .event _ (exec_dropChannels m w) (row_dropChannels m w)
  case release m w => exact .event _ (exec_release m w) (row_release m w)
  case retire m w => exact .event _ (exec_retire m w) (row_retire m w)
  case purge m w => exact .event _ (exec_purge m w) (row_purge m w)
  case revoke m w => exact .event _ (exec_revoke m w) (row_revoke m w)
  case offer m w => exact .event _ (exec_offer m w) (row_offer m w)
  case withdraw m w => exact .event _ (exec_withdraw m w) (row_withdraw m w)
  case accept m w => exact .event _ (exec_accept m w) (row_accept m w)
  case decline m w => exact .event _ (exec_decline m w) (row_decline m w)
  case listOffers m w => exact .event _ (exec_listOffers m w) (row_listOffers m w)
  case queryLease m w => exact .event _ (exec_queryLease m w) (row_queryLease m w)
  case findChannel m w => exact .event _ (exec_findChannel m w) (row_findChannel m w)
  case queryClaims m w => exact .event _ (exec_queryClaims m w) (row_queryClaims m w)
  case resetTable m w => exact .event _ (exec_resetTable m w) (row_resetTable m w)
  case setMode m w => exact .event _ (exec_setMode m w) (row_setMode m w)
  case setLevel m w => exact .event _ (exec_setLevel m w) (row_setLevel m w)
  case armSingle m w => exact .event _ (exec_armSingle m w) (row_armSingle m w)
  case stagePeriodic m w => exact .event _ (exec_stagePeriodic m w) (row_stagePeriodic m w)
  case restartPeriodic m w => exact .event _ (exec_restartPeriodic m w) (row_restartPeriodic m w)
  case force m w => exact .event _ (exec_force m w) (row_force m w)
  case nextNotice m w => exact .event _ (exec_nextNotice m w) (row_nextNotice m w)
  case ackNotices m w => exact .event _ (exec_ackNotices m w) (row_ackNotices m w)
  case ackDevice m w => exact .event _ (exec_ackDevice m w) (row_ackDevice m w)
  case readTime m w => exact .event _ (exec_readTime m w) (row_readTime m w)
  case setPrescaler m w => exact .event _ (exec_setPrescaler m w) (row_setPrescaler m w)
  case setBaseB m w => exact .event _ (exec_setBaseB m w) (row_setBaseB m w)
  case startBaseB m w => exact .event _ (exec_startBaseB m w) (row_startBaseB m w)
  case stopBaseB m w => exact .event _ (exec_stopBaseB m w) (row_stopBaseB m w)
  case configLine m w => exact .event _ (exec_configLine m w) (row_configLine m w)
  case queryLine m w => exact .event _ (exec_queryLine m w) (row_queryLine m w)
  case configChannel m w => exact .event _ (exec_configChannel m w) (row_configChannel m w)
  case configMasterSupervisor m w => exact .event _ (exec_configMasterSupervisor m w) (row_configMaster m w)
  case configMasterSelf m w => exact .event _ (exec_configMasterSelf m w) (row_configMaster m w)
  case disableMaster m w => exact .event _ (exec_disableMaster m w) (row_disableMaster m w)
  case unknownCommand m w word => exact .event _ (exec_unknownCommand m w word) (row_writeCommandWord m w word)
  case commandCollision m w word => exact .event _ (exec_commandCollision m w word) (row_commandCollision m w word)
  case abort m w => exact .event _ (exec_abort m w) (row_abort m w)
  case resultTaken m w => exact .event _ (exec_resultTaken m w) (row_resultTaken m w)
  case windowReset m w => exact .event _ (exec_windowReset m w) (fun s => .windowReset m w)
  case argumentWordWrite m w index value => exact .event _ (exec_argumentWordWrite m w index value) (row_writeArgument m w index value)
  case discardedWrite m address value => exact .event _ (exec_discardedWrite m address value) (row_busWrite m address value)

theorem event_inversion {f : State → State} (hf : ∀ s, Row s (f s)) (h : event f s = .next t) : ∃ u, Begun s u ∧ Rows u t := by
  unfold event at h
  split_ifs at h <;> cases h
  · exact ⟨s, .inl rfl, .refl⟩
  · exact ⟨_, begun_startTicks s, (rows_closeTick s).tail (hf _)⟩

theorem tickEvent_inversion {f : State → State} (hf : ∀ s, Row s (f s)) (h : tickEvent f s = .next t) :
    ∃ u, Begun s u ∧ Rows u t := by
  unfold tickEvent at h
  split_ifs at h <;> cases h
  · exact ⟨s, .inl rfl, .refl⟩
  · exact ⟨_, begun_startTicks s, .single (hf _)⟩

/-- What a row's `exec` comes to: power-on, or rows after at most one tick of each base. -/
theorem exec_inversion {i : Instr} (h : exec i s = .next t) : t = s.powerOn ∨ ∃ u, Begun s u ∧ Rows u t := by
  cases takenAs i with
  | event f hexec hrow => exact .inr (event_inversion hrow (hexec s ▸ h))
  | tickEvent f hexec hrow => exact .inr (tickEvent_inversion hrow (hexec s ▸ h))
  | tick hexec =>
    rcases hexec s with e | ⟨-, -, e⟩ <;> rw [e] at h <;> cases h
    · exact .inr ⟨s, .inl rfl, .refl⟩
    · exact .inr ⟨_, .inr (.inl rfl), .refl⟩
  | pin f g hexec hf hg =>
    rw [hexec] at h
    split_ifs at h
    · cases h
      exact .inr ⟨s, .inl rfl, .single (hf s)⟩
    · exact .inr (event_inversion hg h)
  | resetReleased hi =>
    subst hi
    cases h
    exact .inr ⟨s, .inl rfl, .single (.of_calm (calm_of_settings rfl rfl rfl rfl rfl id))⟩
  | resetAsserted hi =>
    subst hi
    cases h
    exact .inl rfl

/-- On a settled state a row is taken on that very state, and is one `Row`. -/
theorem row_of_exec_settled {i : Instr} (hs : s.settled) (hi : i ≠ .resetN true) (h : exec i s = .next t) : Row s t := by
  obtain ⟨hreset, hquiet⟩ := hs
  obtain ⟨ha, hb, -⟩ := (quiet_iff s).1 hquiet
  cases takenAs i with
  | event f hexec hrow =>
    rw [hexec, event_of_settled s f ⟨hreset, hquiet⟩] at h
    cases h
    exact hrow s
  | tickEvent f hexec hrow =>
    rw [hexec, tickEvent_of_not_due s f hreset ha hb] at h
    cases h
    exact hrow s
  | tick hexec =>
    rcases hexec s with e | ⟨-, hdue, -⟩
    · rw [e] at h
      cases h
      exact .refl s
    · rw [ha] at hdue
      cases hdue
  | pin f g hexec hf hg =>
    rw [hexec, if_neg (by simp [hreset]), event_of_settled s g ⟨hreset, hquiet⟩] at h
    cases h
    exact hg s
  | resetReleased hi =>
    subst hi
    cases h
    exact .of_calm (calm_of_settings rfl rfl rfl rfl rfl id)
  | resetAsserted hi' => exact absurd hi' hi

/-- What a step does. -/
theorem step_inversion (h : step s = .next t) :
    (∃ rest, t = ({ s with pending := rest } : State).powerOn) ∨ ∃ rest u, Begun { s with pending := rest } u ∧ Rows u t := by
  unfold step at h
  split at h
  · cases h
    exact .inr ⟨s.pending, s, .inl rfl, .refl⟩
  next i rest _ =>
    rcases exec_inversion h with h | ⟨u, hbegun, hrows⟩
    · exact .inl ⟨rest, h⟩
    · exact .inr ⟨rest, u, hbegun, hrows⟩

/-! ### The scan as grants (R55, R56) -/

/-- The claims in the queue become `l`. -/
def State.withClaims (s : State) (l : List Claim) : State := { s with claims := l }

@[simp] theorem withClaims_keeps (s : State) (l : List Claim) :
    (∀ m w, (s.withClaims l).window m w = s.window m w) ∧ (∀ m, (s.withClaims l).master m = s.master m)
    ∧ (∀ n, (s.withClaims l).lease n = s.lease n) ∧ (∀ m, (s.withClaims l).offerList m = s.offerList m)
    ∧ (∀ c, (s.withClaims l).channel c = s.channel c) ∧ (∀ k, (s.withClaims l).line k = s.line k)
    ∧ (s.withClaims l).claims = l ∧ (s.withClaims l).baseA = s.baseA ∧ (s.withClaims l).baseB = s.baseB
    ∧ (s.withClaims l).deviceNotice = s.deviceNotice ∧ (s.withClaims l).freeze = s.freeze
    ∧ (∀ base, (s.withClaims l).now base = s.now base) ∧ (∀ base, (s.withClaims l).expiryQueue base = s.expiryQueue base) :=
  ⟨fun _ _ => rfl, fun _ => rfl, fun _ => rfl, fun _ => rfl, fun _ => rfl, fun _ => rfl, rfl, rfl, rfl, rfl, rfl,
    fun base => by cases base <;> rfl, fun base => by cases base <;> rfl⟩

/-- One grant of a scan: a claim whose channels are IDLE and named by no older waiting claim, on a FREE record, to a master below
its quota; the claim leaves the queue and its window is done. -/
inductive ScanGrant : State → State → Prop
  | grant {s : State} (older newer : List Claim) (q : Claim) (n : Fin 64) (hclaims : s.claims = older ++ q :: newer)
      (hidle : ∀ c : Fin 16, q.channels.getLsbD c.val = true → (s.channel c).state = .idle)
      (holder : ∀ c : Fin 16, q.channels.getLsbD c.val = true → ∀ p ∈ older, p.channels.getLsbD c.val = false)
      (hquota : (s.master q.master).count < (s.master q.master).quota) (hn : (s.lease n).state = .free) (y : Window)
      (hy : y = (s.window q.master q.window).completeLate .ok ((s.grant q n).grantWords n)) :
      ScanGrant s (((s.grant q n).setWindow q.master q.window y).withClaims (older ++ newer))

abbrev ScanGrants : State → State → Prop := Relation.ReflTransGen ScanGrant

theorem grant_withClaims (s : State) (l : List Claim) (q : Claim) (n : Fin 64) :
    (s.withClaims l).grant q n = (s.grant q n).withClaims l := by
  obtain ⟨master, window, channels, base, term, grace, graceAction, urgency, boundaryNotices, line, deadline, arrival⟩ := q
  cases base <;> cases line <;> rfl

/-- Two sets of channels that have none in common. -/
theorem and_eq_zero_iff {x y : ChannelSet} : x &&& y = 0 ↔ ∀ c : Fin 16, x.getLsbD c.val = true → y.getLsbD c.val = false := by
  constructor
  · intro h c hc
    have := congrArg (fun z : ChannelSet => z.getLsbD c.val) h
    simpa [hc, -BitVec.getLsbD_eq_getElem] using this
  · intro h
    refine BitVec.eq_of_getLsbD_eq fun i hi => ?_
    have := h ⟨i, hi⟩
    cases hx : x.getLsbD i <;> simp_all

/-- R55: what lets a scan grant a claim. -/
theorem scanRecord_eq_some {reserved : ChannelSet} {q : Claim} {n : Fin 64} :
    s.scanRecord reserved q = some n ↔
      (∀ c : Fin 16, q.channels.getLsbD c.val = true → (s.channel c).state = .idle)
      ∧ (∀ c : Fin 16, q.channels.getLsbD c.val = true → reserved.getLsbD c.val = false)
      ∧ (s.master q.master).count < (s.master q.master).quota ∧ s.lowestFree = some n := by
  have hcond : (s.allIdle q.channels && (q.channels &&& reserved) == 0
        && decide ((s.master q.master).count < (s.master q.master).quota)) = true ↔
      (∀ c : Fin 16, q.channels.getLsbD c.val = true → (s.channel c).state = .idle)
      ∧ (∀ c : Fin 16, q.channels.getLsbD c.val = true → reserved.getLsbD c.val = false)
      ∧ (s.master q.master).count < (s.master q.master).quota := by
    rw [Bool.and_eq_true, Bool.and_eq_true, allIdle_iff, beq_iff_eq, and_eq_zero_iff, decide_eq_true_iff, and_assoc]
  unfold State.scanRecord
  split_ifs with h
  · have := hcond.1 h
    tauto
  · have := mt hcond.2 h
    simp only [reduceCtorEq, false_iff]
    tauto

/-- A set that has the channels which the claims of a list name, and no other. -/
def Reserves (reserved : ChannelSet) (l : List Claim) : Prop :=
  ∀ c : Fin 16, reserved.getLsbD c.val = true ↔ ∃ p ∈ l, p.channels.getLsbD c.val = true

theorem reserves_nil : Reserves 0 [] := by simp [Reserves]

theorem Reserves.snoc {reserved : ChannelSet} {l : List Claim} (h : Reserves reserved l) (q : Claim) :
    Reserves (reserved ||| q.channels) (l ++ [q]) := by
  intro c
  rw [BitVec.getLsbD_or, Bool.or_eq_true, h c]
  simp [or_and_right, exists_or, -BitVec.getLsbD_eq_getElem]

theorem Reserves.eq_false_iff {reserved : ChannelSet} {l : List Claim} (h : Reserves reserved l) (c : Fin 16) :
    reserved.getLsbD c.val = false ↔ ∀ p ∈ l, p.channels.getLsbD c.val = false := by
  have := not_congr (h c)
  simpa [-BitVec.getLsbD_eq_getElem] using this

/-- The walk of a scan, past the claims `older` that keep waiting, is a sequence of grants. -/
theorem scanGrants_scanWalk (older : List Claim) (reserved : ChannelSet) (qs : List Claim) (s : State) (h : Reserves reserved older) :
    ScanGrants (s.withClaims (older ++ qs)) ((s.scanWalk reserved qs).1.withClaims (older ++ (s.scanWalk reserved qs).2)) := by
  induction qs generalizing s reserved older with
  | nil => exact .refl
  | cons q qs ih =>
    unfold State.scanWalk
    cases hrecord : s.scanRecord reserved q with
    | some n =>
      obtain ⟨hidle, hreserved, hquota, hfree⟩ := scanRecord_eq_some.1 hrecord
      refine .head ?_ (ih older reserved (s.grantWaiting q n) h)
      have hgrant := ScanGrant.grant (s := s.withClaims (older ++ q :: qs)) older qs q n rfl (by simpa using hidle)
        (fun c hc => (h.eq_false_iff c).1 (hreserved c hc)) (by simpa using hquota)
        (by simpa using ((lowestFree_eq_some s).1 hfree).1) _ rfl
      rw [grant_withClaims] at hgrant
      have hsame : (s.grantWaiting q n).withClaims (older ++ qs) =
          ((s.grant q n).setWindow q.master q.window
            ((s.window q.master q.window).completeLate .ok ((s.grant q n).grantWords n))).withClaims (older ++ qs) := by
        rw [State.grantWaiting, State.completeLate]
        simp only [grant_keeps]
      rw [hsame]
      exact hgrant
    | none =>
      have := ih (older ++ [q]) (reserved ||| q.channels) s (h.snoc q)
      simpa using this

/-- A scan is a sequence of grants. -/
theorem scanGrants_scan (s : State) : ScanGrants s s.scan := by
  have h := scanGrants_scanWalk [] 0 s.claims s reserves_nil
  rwa [List.nil_append, List.nil_append] at h

theorem scanGrants_closeEvent (s t : State) : ScanGrants t (closeEvent s t) := by
  unfold closeEvent
  split_ifs
  · exact scanGrants_scan t
  · exact .refl

/-! ### Conditions on the tables behind the windows -/

/-- A condition `J` that every kind of change keeps, where `I` holds before it. It asks nothing of the windows. -/
structure KeptByRows (I J : State → Prop) : Prop where
  setWindow : ∀ {s : State} (m w x), J s → J (s.setWindow m w x)
  mapWindows : ∀ {s : State} (f), J s → J (s.mapWindows f)
  calm : ∀ {s t : State}, Calm s t → I s → J s → J t
  ending : ∀ {s t : State}, Ending s t → I s → J s → J t
  removeClaims : ∀ {s : State} (p), J s → J (s.removeClaims p)
  drained : ∀ {s : State} (c), (s.channel c).state = .draining → I s → J s → J (s.setChannel c (s.channel c).enterIdle)
  configured : ∀ {s : State} (k : Fin 8) (r : Master), r.count = (s.master k).count → r.role = (s.master k).role →
    ((s.master k).enabled = true → r.enabled = true) → ((s.master k).quota ≤ 64 → r.quota ≤ 64) → J s → J (s.setMaster k r)
  disabled : ∀ {s : State} (k : Fin 8), k ≠ 0 → (∀ n, (s.lease n).holder ≠ some k) → J s → J (s.setMaster k (s.master k).disabled)
  joined : ∀ {s : State} (q : Claim) (arrivals : Word), s.Admits q → I s → J s →
    J { s with arrivals := arrivals, claims := s.claims ++ [q] }
  granted : ∀ {s : State} (q : Claim) (n), s.Admits q →
    (∀ c : Fin 16, q.channels.getLsbD c.val = true → (s.channel c).state = .idle) → (s.lease n).state = .free → I s → J s →
    J (s.grant q n)
  tableReset : ∀ {s : State}, I s → J s → J s.resetTable
  scanGranted : ∀ {s : State} (older newer : List Claim) (q : Claim) (n), s.claims = older ++ q :: newer →
    (∀ c : Fin 16, q.channels.getLsbD c.val = true → (s.channel c).state = .idle) → (s.lease n).state = .free → I s → J s →
    J ((s.grant q n).withClaims (older ++ newer))

/-- No condition before a change. -/
abbrev Always (_ : State) : Prop := True

namespace KeptByRows

variable {I J : State → Prop}

/-- A condition kept under none is kept under any. -/
theorem under (h : KeptByRows Always J) : KeptByRows I J where
  setWindow := h.setWindow
  mapWindows := h.mapWindows
  removeClaims := h.removeClaims
  configured := h.configured
  disabled := h.disabled
  calm hst _ := h.calm hst trivial
  ending hst _ := h.ending hst trivial
  drained c hc _ := h.drained c hc trivial
  joined q a hq _ := h.joined q a hq trivial
  granted q n hq hidle hn _ := h.granted q n hq hidle hn trivial
  tableReset _ := h.tableReset trivial
  scanGranted older newer q n hq hidle hn _ := h.scanGranted older newer q n hq hidle hn trivial

/-- Conditions kept one under the other are kept together. -/
theorem and (hI : KeptByRows Always I) (hJ : KeptByRows I J) : KeptByRows Always fun s => I s ∧ J s where
  setWindow m w x h := ⟨hI.setWindow m w x h.1, hJ.setWindow m w x h.2⟩
  mapWindows f h := ⟨hI.mapWindows f h.1, hJ.mapWindows f h.2⟩
  calm hst _ h := ⟨hI.calm hst trivial h.1, hJ.calm hst h.1 h.2⟩
  ending hst _ h := ⟨hI.ending hst trivial h.1, hJ.ending hst h.1 h.2⟩
  removeClaims p h := ⟨hI.removeClaims p h.1, hJ.removeClaims p h.2⟩
  drained c hc _ h := ⟨hI.drained c hc trivial h.1, hJ.drained c hc h.1 h.2⟩
  configured k r h1 h2 h3 h4 h := ⟨hI.configured k r h1 h2 h3 h4 h.1, hJ.configured k r h1 h2 h3 h4 h.2⟩
  disabled k hk hnone h := ⟨hI.disabled k hk hnone h.1, hJ.disabled k hk hnone h.2⟩
  joined q a hq _ h := ⟨hI.joined q a hq trivial h.1, hJ.joined q a hq h.1 h.2⟩
  granted q n hq hidle hn _ h := ⟨hI.granted q n hq hidle hn trivial h.1, hJ.granted q n hq hidle hn h.1 h.2⟩
  tableReset _ h := ⟨hI.tableReset trivial h.1, hJ.tableReset h.1 h.2⟩
  scanGranted older newer q n hq hidle hn _ h :=
    ⟨hI.scanGranted older newer q n hq hidle hn trivial h.1, hJ.scanGranted older newer q n hq hidle hn h.1 h.2⟩

variable (h : KeptByRows Always J)
include h

theorem calms (hst : Calms s t) (hs : J s) : J t := by
  induction hst with
  | refl => exact hs
  | tail _ hstep ih => exact h.calm hstep trivial ih

theorem endings (hst : Endings s t) (hs : J s) : J t := by
  induction hst with
  | refl => exact hs
  | tail _ hstep ih => exact h.ending hstep trivial ih

theorem scanGrants (hst : ScanGrants s t) (hs : J s) : J t := by
  induction hst with
  | refl => exact hs
  | tail _ hstep ih =>
    cases hstep with
    | grant older newer q n hclaims hidle _ _ hn y =>
      exact h.setWindow q.master q.window y (h.scanGranted older newer q n hclaims hidle hn trivial ih)

theorem closeEvent (before : State) (hs : J s) : J (Machine.closeEvent before s) := h.scanGrants (scanGrants_closeEvent before s) hs

/-- Every row keeps the condition. -/
theorem row (hst : Row s t) (hs : J s) : J t := by
  cases hst with
  | calm hcalm => exact h.calms hcalm hs
  | window m w x _ => exact h.setWindow m w x hs
  | answered m w x y _ hcalm _ => exact h.setWindow m w y (h.calms hcalm (h.setWindow m w x hs))
  | closed m w x y _ hends _ => exact h.closeEvent s (h.setWindow m w y (h.endings hends (h.setWindow m w x hs)))
  | lapsed hends => exact h.closeEvent s (h.endings hends hs)
  | configured m w x y _ k r hcount hrole henabled hquota _ =>
    exact h.closeEvent s (h.setWindow m w y
      (h.configured (s := s.setWindow m w x) k r hcount hrole henabled hquota (h.setWindow m w x hs)))
  | joined m w x q arrivals _ _ _ _ _ hq _ => exact h.setWindow m w x (h.joined q arrivals hq trivial hs)
  | granted m w y q n _ _ hq hidle hn => exact h.setWindow m w y (h.granted q n hq hidle hn trivial hs)
  | tableReset m w y _ _ => exact h.setWindow m w y (h.tableReset trivial hs)
  | @disabled u m w k x y _ hk hends hnone _ =>
    have hu := h.removeClaims (fun q => q.master == k) (h.endings hends (h.setWindow m w x hs))
    have hrest := h.setWindow k 1 .rest (h.setWindow k 0 .rest hu)
    exact h.closeEvent s (h.setWindow m w y (h.disabled (s := (u.removeClaims fun q => q.master == k).resetWindowsOf k) k hk hnone hrest))
  | ended p code hends => exact h.closeEvent s (h.endings hends (h.removeClaims p (h.mapWindows _ hs)))
  | drained c hdue =>
    have hdraining : (s.channel c).state = .draining := by
      simp only [State.drainEndDue, Bool.and_eq_true, beq_iff_eq] at hdue
      exact hdue.1
    exact h.closeEvent s (h.mapWindows _ (h.drained c hdraining trivial hs))
  | windowReset m w => exact h.closeEvent s (h.setWindow m w .rest (h.removeClaims _ hs))

theorem rows (hst : Rows s t) (hs : J s) : J t := by
  induction hst with
  | refl => exact hs
  | tail _ hstep ih => exact h.row hstep ih

/-- Every step keeps a condition that every row and every tick keeps, and that a part at its power-on values meets. -/
theorem step (hpending : ∀ {s : State} (rest), J s → J { s with pending := rest }) (hA : ∀ {s : State}, J s → J s.advanceA)
    (hB : ∀ {s : State}, J s → J s.advanceB) (hpower : ∀ s : State, J s.powerOn) (hs : J s) (hst : Machine.step s = .next t) : J t := by
  rcases step_inversion hst with ⟨rest, rfl⟩ | ⟨rest, u, hbegun, hrows⟩
  · exact hpower _
  · refine h.rows hrows ?_
    have hs' := hpending rest hs
    rcases hbegun with rfl | rfl | rfl | rfl
    · exact hs'
    · exact hA hs'
    · exact hB hs'
    · exact hB (hA hs')

end KeptByRows

end Sys2Proof.Machine
end

section
/-! PROOFS. What the operations that touch every table read as: the reset of the table, a tick of each base, power-on. -/

namespace Sys2Proof.Machine

variable (s : State)

/-! ### RESET_TABLE (R21 to R23) -/

@[simp] theorem resetTable_lease (n : Fin 64) : s.resetTable.lease n = .rest (s.lease n).generation := by
  simp [State.resetTable, State.lease]

@[simp] theorem resetTable_offerList (m : Fin 8) : s.resetTable.offerList m = [] := by
  simp [State.resetTable, State.offerList]

@[simp] theorem resetTable_master (m : Fin 8) : s.resetTable.master m = { s.master m with count := 0 } := by
  simp [State.resetTable, State.master]

@[simp] theorem resetTable_expiryQueue (base : Base) : s.resetTable.expiryQueue base = [] := by cases base <;> rfl

@[simp] theorem resetTable_claims : s.resetTable.claims = [] := rfl

@[simp] theorem resetTable_channel (c : Fin 16) : s.resetTable.channel c = (s.channel c).enterIdle := by
  simp [State.resetTable, State.channel]

@[simp] theorem resetTable_line (k : Fin 8) : s.resetTable.line k = { s.line k with bound := none } := by
  simp [State.resetTable, State.line]

@[simp] theorem resetTable_keeps :
    s.resetTable.baseA = s.baseA ∧ s.resetTable.baseB = s.baseB ∧ s.resetTable.deviceNotice = s.deviceNotice
    ∧ s.resetTable.freeze = s.freeze ∧ ∀ base, s.resetTable.now base = s.now base :=
  ⟨rfl, rfl, rfl, rfl, fun base => by cases base <;> rfl⟩

/-! ### Channels that a lease takes or lets go (R13, R118) -/

@[simp] theorem governChannels_keeps (set : ChannelSet) (n : Fin 64) :
    (∀ m w, (s.governChannels set n).window m w = s.window m w) ∧ (∀ m, (s.governChannels set n).master m = s.master m)
    ∧ (∀ k, (s.governChannels set n).lease k = s.lease k) ∧ (∀ m, (s.governChannels set n).offerList m = s.offerList m)
    ∧ (∀ k, (s.governChannels set n).line k = s.line k) ∧ (s.governChannels set n).claims = s.claims
    ∧ (s.governChannels set n).baseA = s.baseA ∧ (s.governChannels set n).baseB = s.baseB
    ∧ (s.governChannels set n).deviceNotice = s.deviceNotice ∧ (∀ base, (s.governChannels set n).now base = s.now base)
    ∧ (∀ base, (s.governChannels set n).expiryQueue base = s.expiryQueue base) := by
  simp [State.governChannels]

@[simp] theorem releaseChannels_keeps (set : ChannelSet) :
    (∀ m w, (s.releaseChannels set).window m w = s.window m w) ∧ (∀ m, (s.releaseChannels set).master m = s.master m)
    ∧ (∀ k, (s.releaseChannels set).lease k = s.lease k) ∧ (∀ m, (s.releaseChannels set).offerList m = s.offerList m)
    ∧ (∀ k, (s.releaseChannels set).line k = s.line k) ∧ (s.releaseChannels set).claims = s.claims
    ∧ (s.releaseChannels set).baseA = s.baseA ∧ (s.releaseChannels set).baseB = s.baseB
    ∧ (s.releaseChannels set).deviceNotice = s.deviceNotice ∧ (∀ base, (s.releaseChannels set).now base = s.now base)
    ∧ (∀ base, (s.releaseChannels set).expiryQueue base = s.expiryQueue base) := by
  simp [State.releaseChannels]

/-! ### The ticks (R27, R29) -/

@[simp] theorem advanceA_keeps :
    (∀ m w, s.advanceA.window m w = s.window m w) ∧ (∀ m, s.advanceA.master m = s.master m)
    ∧ (∀ n, s.advanceA.lease n = s.lease n) ∧ (∀ m, s.advanceA.offerList m = s.offerList m)
    ∧ (∀ k, s.advanceA.line k = s.line k) ∧ s.advanceA.claims = s.claims ∧ s.advanceA.deviceNotice = s.deviceNotice
    ∧ (∀ base, s.advanceA.expiryQueue base = s.expiryQueue base) :=
  ⟨fun _ _ => rfl, fun _ => rfl, fun _ => rfl, fun _ => rfl, fun _ => rfl, rfl, rfl, fun base => by cases base <;> rfl⟩

@[simp] theorem advanceA_channel (c : Fin 16) :
    s.advanceA.channel c = { s.channel c with wave := (s.channel c).wave.advance } := by
  simp [State.advanceA, State.mapChannels, State.channel]

@[simp] theorem advanceB_keeps :
    (∀ m w, s.advanceB.window m w = s.window m w) ∧ (∀ m, s.advanceB.master m = s.master m)
    ∧ (∀ n, s.advanceB.lease n = s.lease n) ∧ (∀ m, s.advanceB.offerList m = s.offerList m)
    ∧ (∀ c, s.advanceB.channel c = s.channel c) ∧ (∀ k, s.advanceB.line k = s.line k) ∧ s.advanceB.claims = s.claims
    ∧ s.advanceB.deviceNotice = s.deviceNotice ∧ (∀ base, s.advanceB.expiryQueue base = s.expiryQueue base) :=
  ⟨fun _ _ => rfl, fun _ => rfl, fun _ => rfl, fun _ => rfl, fun _ => rfl, fun _ => rfl, rfl, rfl,
    fun base => by cases base <;> rfl⟩

/-! ### Power-on (R177) -/

@[simp] theorem powerOn_reads :
    (∀ m w, s.powerOn.window m w = .rest) ∧ (∀ m, s.powerOn.master m = .powerOn m) ∧ (∀ n, s.powerOn.lease n = .rest 0)
    ∧ (∀ m, s.powerOn.offerList m = []) ∧ (∀ c, s.powerOn.channel c = .powerOn)
    ∧ (∀ k, s.powerOn.line k = .powerOn (s.line k).level) ∧ s.powerOn.claims = [] ∧ s.powerOn.baseA = .powerOn
    ∧ s.powerOn.baseB = .powerOn ∧ s.powerOn.deviceNotice = .none ∧ (∀ base, s.powerOn.expiryQueue base = []) := by
  refine ⟨?_, ?_, ?_, ?_, ?_, ?_, rfl, rfl, rfl, rfl, fun base => by cases base <;> rfl⟩ <;> intros <;>
    simp [State.powerOn, State.reset, State.window, State.master, State.lease, State.offerList, State.channel, State.line]

end Sys2Proof.Machine
end

section
/-! PROOFS. What every step keeps of the tables that few rows touch: masters and divisors, offers, lines, lease counts. -/

namespace Sys2Proof.Machine

variable {s t : State}

/-! ### What the changes of single records leave alone -/

theorem Calm.keeps (h : Calm s t) :
    (∀ m w, t.window m w = s.window m w) ∧ (∀ m, t.master m = s.master m) ∧ t.claims = s.claims := by
  cases h with
  | settings | start | stop => exact ⟨fun _ _ => rfl, fun _ => rfl, rfl⟩
  | renew | grace | note | offer | endOffer | add | wave | config | line => simp

theorem Ending.keeps (h : Ending s t) :
    (∀ m w, t.window m w = s.window m w) ∧ t.claims = s.claims ∧ t.baseA = s.baseA
    ∧ (t.baseB.divisor = s.baseB.divisor ∧ t.baseB.divisorInUse = s.baseB.divisorInUse)
    ∧ ∀ m, (t.master m).enabled = (s.master m).enabled ∧ (t.master m).role = (s.master m).role
        ∧ (t.master m).quota = (s.master m).quota := by
  cases h with
  | stall => exact ⟨fun _ _ => rfl, rfl, rfl, ⟨rfl, rfl⟩, fun _ => ⟨rfl, rfl, rfl⟩⟩
  | lapse | drop | withdraw => simp
  | free n =>
    simp only [freeLease_keeps, freeLease_master, implies_true, and_self, true_and]
    intro m
    split_ifs <;> exact ⟨rfl, rfl, rfl⟩
  | accept => simp [acceptLease_master]

/-! ### Masters and divisors (R168, R10, R28, R32) -/

theorem Calm.keeps_divisors (h : Calm s t) (hs : s.divisorsKept) : t.divisorsKept := by
  cases h with
  | settings a b notice freeze resetAsserted freeCount pending _ _ _ _ hdivisors => exact hdivisors hs
  | start | stop => exact hs
  | renew | grace | note | offer | endOffer | wave | config | line => simpa [State.divisorsKept] using hs
  | add => exact hs

/-- R168, R10: the record of a master keeps its role, a quota in range, and an enabled master 0. -/
theorem mastersKept_setMaster {k : Fin 8} {r : Master} (hrole : r.role = (s.master k).role)
    (henabled : k = 0 → (s.master k).enabled = true → r.enabled = true) (hquota : (s.master k).quota ≤ 64 → r.quota ≤ 64)
    (hs : s.mastersKept) : (s.setMaster k r).mastersKept := by
  obtain ⟨hzero, hrest⟩ := hs
  constructor
  · rw [setMaster_master]
    split_ifs with h
    · exact henabled h.symm (h ▸ hzero)
    · exact hzero
  · intro m
    obtain rfl | h := eq_or_ne m k
    · rw [setMaster_master_same, hrole]
      exact ⟨(hrest m).1, hquota (hrest m).2⟩
    · rw [setMaster_master_other s h]
      exact hrest m

/-- Masters whose enable, role and quota stay. -/
theorem mastersKept_congr (h : ∀ m, (t.master m).enabled = (s.master m).enabled ∧ (t.master m).role = (s.master m).role
    ∧ (t.master m).quota = (s.master m).quota) (hs : s.mastersKept) : t.mastersKept := by
  obtain ⟨hzero, hrest⟩ := hs
  exact ⟨(h 0).1 ▸ hzero, fun m => by rw [(h m).2.1, (h m).2.2]; exact hrest m⟩

theorem grant_master_keeps (q : Claim) (n : Fin 64) (m : Fin 8) :
    ((s.grant q n).master m).enabled = (s.master m).enabled ∧ ((s.grant q n).master m).role = (s.master m).role
    ∧ ((s.grant q n).master m).quota = (s.master m).quota := by
  rw [grant_master]
  split_ifs with h
  · exact ⟨by rw [h], by rw [h], by rw [h]⟩
  · exact ⟨rfl, rfl, rfl⟩

theorem keptByRows_masters : KeptByRows Always fun s => s.mastersKept ∧ s.divisorsKept where
  setWindow _ _ _ h := h
  mapWindows _ h := h
  removeClaims _ h := h
  joined _ _ _ _ h := h
  drained _ _ _ h := h
  calm hst _ h := ⟨mastersKept_congr (fun m => by simp [hst.keeps.2.1 m]) h.1, hst.keeps_divisors h.2⟩
  ending hst _ h := by
    obtain ⟨-, -, hA, ⟨hdivisor, hinUse⟩, hmaster⟩ := hst.keeps
    exact ⟨mastersKept_congr hmaster h.1, by simpa only [State.divisorsKept, hA, hdivisor, hinUse] using h.2⟩
  configured _ _ _ hrole henabled hquota h := ⟨mastersKept_setMaster hrole (fun _ => henabled) hquota h.1, h.2⟩
  disabled k hk _ h := ⟨mastersKept_setMaster rfl (fun hzero => absurd hzero hk) id h.1, h.2⟩
  granted q n _ _ _ _ h := ⟨mastersKept_congr (grant_master_keeps q n) h.1, by simpa [State.divisorsKept] using h.2⟩
  tableReset _ h := ⟨mastersKept_congr (fun m => by simp) h.1, h.2⟩
  scanGranted older newer q n _ _ _ _ h := ⟨mastersKept_congr (grant_master_keeps q n) h.1, by simpa [State.divisorsKept] using h.2⟩

theorem mastersKept_powerOn (s : State) : s.powerOn.mastersKept := by
  simp only [State.mastersKept, powerOn_reads]
  decide

/-- Settles O48: every kind of change keeps the roles, the quotas' range and the divisors. -/
theorem stepKeepsMastersAndDivisors : Obligations.StepKeepsMastersAndDivisors := by
  intro s t hmasters hdivisors hst
  refine keptByRows_masters.step (fun _ h => h) (fun h => ?_) (fun h => ?_) (fun s => ⟨mastersKept_powerOn s, by simp [State.divisorsKept, BaseA.powerOn, BaseB.powerOn]⟩)
    ⟨hmasters, hdivisors⟩ hst
  · exact ⟨h.1, h.2.1, h.2.1, h.2.2.2⟩
  · exact ⟨h.1, h.2.1, h.2.2.1, h.2.2.2.1, h.2.2.2.1⟩

/-! ### Offers (R102) -/

/-- A change of one lease that keeps its offer target, and leaves it live if it has one. -/
theorem offersKept_of_lease (n : Fin 64) (hother : ∀ k, k ≠ n → t.lease k = s.lease k)
    (htarget : (t.lease n).offerTarget = (s.lease n).offerTarget)
    (hlive : (s.lease n).offerTarget ≠ none → (s.lease n).live = true → (t.lease n).live = true)
    (hlist : ∀ m, t.offerList m = s.offerList m) (hs : s.offersKept) : t.offersKept := by
  obtain ⟨hlives, hlists⟩ := hs
  have htargets (k : Fin 64) : (t.lease k).offerTarget = (s.lease k).offerTarget := by
    obtain rfl | hk := eq_or_ne k n
    · exact htarget
    · rw [hother k hk]
  refine ⟨fun k hk => ?_, fun m => ?_⟩
  · rw [htargets] at hk
    obtain rfl | hkn := eq_or_ne k n
    · exact hlive hk (hlives k hk)
    · rw [hother k hkn]
      exact hlives k hk
  · simp only [hlist, htargets]
    exact hlists m

/-- The offer of one lease ends, and it leaves its target's list. -/
theorem offersKept_withdrawn (n : Fin 64) (hn : (t.lease n).offerTarget = none) (hother : ∀ k, k ≠ n → t.lease k = s.lease k)
    (hlist : ∀ m, t.offerList m = if (s.lease n).offerTarget = some m then (s.offerList m).filter (· != n) else s.offerList m)
    (hs : s.offersKept) : t.offersKept := by
  obtain ⟨hlive, hlists⟩ := hs
  refine ⟨fun k hk => ?_, fun m => ?_⟩
  · obtain rfl | hkn := eq_or_ne k n
    · exact absurd hn hk
    · rw [hother k hkn] at hk ⊢
      exact hlive k hk
  · obtain ⟨hlength, hnodup, hmem⟩ := hlists m
    have hlist' : t.offerList m = (s.offerList m).filter (· != n) := by
      rw [hlist m]
      split_ifs with h
      · rfl
      · exact (List.filter_eq_self.2 fun k hk => bne_iff_ne.2 fun e : k = n => h ((hmem n).1 (e ▸ hk))).symm
    rw [hlist']
    refine ⟨(List.length_filter_le _ _).trans hlength, hnodup.filter _, fun k => ?_⟩
    obtain rfl | hkn := eq_or_ne k n
    · simp [hn]
    · simp [hkn, hother k hkn, hmem]

theorem offersKept_detach_of_live {n : Fin 64} (m : Fin 8) (hs : s.offersKept) :
    (if (s.lease n).live then (s.detach n).offerList m else s.offerList m) =
      if (s.lease n).offerTarget = some m then (s.offerList m).filter (· != n) else s.offerList m := by
  rw [detach_offerList]
  split_ifs with hlive htarget htarget
  · rfl
  · rfl
  · exact absurd (hs.1 n (by simp [htarget])) hlive
  · rfl

theorem offersKept_makeOffer {n : Fin 64} {target : Fin 8} (hlive : (s.lease n).live = true)
    (hplace : (s.offerList target).length < 4 ∨ n ∈ s.offerList target) (hs : s.offersKept) : (s.makeOffer n target).offersKept := by
  have hends : (s.endOffer n).offersKept :=
    offersKept_withdrawn n (by simp [endOffer_lease]) (fun k hk => by rw [endOffer_lease, if_neg hk]) (endOffer_offerList s n) hs
  have hlist (m : Fin 8) : (s.makeOffer n target).offerList m = (s.endOffer n).offerList m ++ if m = target then [n] else [] := by
    rw [makeOffer_offerList, endOffer_offerList]
  have hother (k : Fin 64) (hk : k ≠ n) : (s.makeOffer n target).lease k = (s.endOffer n).lease k := by
    rw [makeOffer_lease, if_neg hk, endOffer_lease, if_neg hk]
  have hsame : (s.makeOffer n target).lease n = { s.lease n with offerTarget := some target } := by rw [makeOffer_lease, if_pos rfl]
  have hnone (m : Fin 8) : n ∉ (s.endOffer n).offerList m := by
    rw [(hends.2 m).2.2 n, endOffer_lease, if_pos rfl]
    simp
  have hshort : ((s.endOffer n).offerList target).length < 4 := by
    rw [endOffer_offerList]
    split_ifs with htarget
    · have hmem := ((hs.2 target).2.2 n).2 htarget
      exact (List.length_filter_lt_length_iff_exists.2 ⟨n, hmem, by simp⟩).trans_le (hs.2 target).1
    · exact hplace.resolve_right (mt ((hs.2 target).2.2 n).1 htarget)
  refine ⟨fun k hk => ?_, fun m => ?_⟩
  · obtain rfl | hkn := eq_or_ne k n
    · rw [hsame]
      exact hlive
    · rw [hother k hkn] at hk ⊢
      exact hends.1 k hk
  · obtain ⟨hlength, hnodup, hmem⟩ := hends.2 m
    rw [hlist m]
    refine ⟨?_, ?_, fun k => ?_⟩
    · split_ifs with h
      · simpa using h ▸ hshort
      · simpa using hlength
    · split_ifs
      · exact hnodup.append (List.nodup_singleton n) (List.disjoint_singleton.2 (hnone m))
      · simpa using hnodup
    · obtain rfl | hkn := eq_or_ne k n
      · rw [hsame]
        have := hnone m
        rw [List.mem_append]
        split_ifs with h
        · simp [h]
        · simp [this, Ne.symm h]
      · rw [hother k hkn, List.mem_append, hmem]
        split_ifs <;> simp [hkn]

theorem offersKept_withdrawOffersTo (m : Fin 8) (hs : s.offersKept) : (s.withdrawOffersTo m).offersKept := by
  obtain ⟨hlive, hlists⟩ := hs
  have htarget (n : Fin 64) : ((s.withdrawOffersTo m).lease n).offerTarget =
      if (s.lease n).offerTarget = some m then none else (s.lease n).offerTarget := by
    rw [withdrawOffersTo_lease]
    simp only [(hlists m).2.2 n]
    split_ifs <;> rfl
  have hlive' (n : Fin 64) : ((s.withdrawOffersTo m).lease n).live = (s.lease n).live := by
    rw [withdrawOffersTo_lease]
    split_ifs <;> rfl
  refine ⟨fun n hn => ?_, fun k => ?_⟩
  · rw [hlive']
    refine hlive n fun hnone => hn ?_
    rw [htarget, hnone]
    simp
  · rw [withdrawOffersTo_offerList]
    obtain rfl | hk := eq_or_ne k m
    · rw [if_pos rfl]
      refine ⟨by simp, by simp, fun n => ?_⟩
      rw [htarget]
      split_ifs with h <;> simp [h]
    · rw [if_neg hk]
      refine ⟨(hlists k).1, (hlists k).2.1, fun n => ?_⟩
      rw [htarget, (hlists k).2.2 n]
      split_ifs with h
      · simp [h, hk.symm]
      · rfl

theorem Calm.keeps_offers (h : Calm s t) (hs : s.offersKept) : t.offersKept := by
  cases h with
  | settings | start | stop | wave | config | line => exact hs
  | renew n stamp _ =>
    exact offersKept_of_lease n (fun k hk => by rw [renewLease_lease, if_neg hk]) (by rw [renewLease_lease, if_pos rfl]; rfl)
      (fun _ _ => by rw [renewLease_lease, if_pos rfl]; rfl) (fun m => by simp) hs
  | grace n _ =>
    exact offersKept_of_lease n (fun k hk => by rw [enterGrace_lease, if_neg hk]) (by rw [enterGrace_lease, if_pos rfl]; rfl)
      (fun _ _ => by rw [enterGrace_lease, if_pos rfl]; rfl) (fun m => by simp) hs
  | note n l hsame _ _ =>
    exact offersKept_of_lease n (fun k hk => setLease_lease_other s hk l) (by rw [setLease_lease_same, hsame.offerTarget])
      (fun _ hlive => by simpa [Lease.live, hsame.state] using hlive) (fun m => rfl) hs
  | offer n target hlive hplace => exact offersKept_makeOffer hlive hplace hs
  | endOffer n =>
    exact offersKept_withdrawn n (by simp [endOffer_lease]) (fun k hk => by rw [endOffer_lease, if_neg hk]) (endOffer_offerList s n) hs
  | add n set _ _ =>
    exact offersKept_of_lease (s := s) n (fun k hk => by simp [setLease_lease_other s hk]) (by simp) (fun _ hlive => by simpa [Lease.live] using hlive)
      (fun m => rfl) hs

theorem Ending.keeps_offers (h : Ending s t) (hs : s.offersKept) : t.offersKept := by
  cases h with
  | lapse n why _ =>
    exact offersKept_withdrawn n (by rw [lapse_lease, if_pos rfl]; rfl) (fun k hk => by rw [lapse_lease, if_neg hk])
      (fun m => by simp [detach_offerList]) hs
  | free n =>
    refine offersKept_withdrawn n (by rw [freeLease_lease, if_pos rfl]; rfl) (fun k hk => by rw [freeLease_lease, if_neg hk])
      (fun m => ?_) hs
    rw [(freeLease_reads s n).2.2.1, offersKept_detach_of_live m hs]
  | accept n m _ htarget _ =>
    refine offersKept_withdrawn n (by rw [acceptLease_lease, if_pos rfl]; rfl) (fun k hk => by rw [acceptLease_lease, if_neg hk])
      (fun k => ?_) hs
    rw [acceptLease_offerList, htarget]
    simp [eq_comm]
  | drop n set _ _ _ =>
    exact offersKept_of_lease (s := s) n (fun k hk => by simp [setLease_lease_other _ hk]) (by simp) (fun _ hlive => by simpa [Lease.live] using hlive)
      (fun m => rfl) hs
  | withdraw m => exact offersKept_withdrawOffersTo m hs
  | stall => exact hs

/-- A FREE record has no offer, and a grant makes none. -/
theorem offersKept_grant {q : Claim} {n : Fin 64} (hn : (s.lease n).state = .free) (hs : s.offersKept) : (s.grant q n).offersKept := by
  have hnone : (s.lease n).offerTarget = none := by
    by_contra htarget
    simpa [Lease.live, hn] using hs.1 n htarget
  exact offersKept_of_lease n (fun k hk => by rw [grant_lease, if_neg hk]) (by rw [grant_lease, if_pos rfl, hnone]; rfl)
    (fun htarget => absurd hnone htarget) (fun m => by simp) hs

theorem offersKept_of_none (htarget : ∀ n, (s.lease n).offerTarget = none) (hlist : ∀ m, s.offerList m = []) : s.offersKept :=
  ⟨fun n hn => absurd (htarget n) hn, fun m => by simp [hlist, htarget]⟩

theorem keptByRows_offers : KeptByRows Always fun s => s.offersKept where
  setWindow _ _ _ h := h
  mapWindows _ h := h
  removeClaims _ h := h
  joined _ _ _ _ h := h
  drained _ _ _ h := h
  configured _ _ _ _ _ _ h := h
  disabled _ _ _ h := h
  calm hst _ h := hst.keeps_offers h
  ending hst _ h := hst.keeps_offers h
  granted _ _ _ _ hn _ h := offersKept_grant hn h
  tableReset _ _ := offersKept_of_none (fun n => by rw [resetTable_lease]; rfl) (resetTable_offerList _)
  scanGranted _ _ _ _ _ _ hn _ h := offersKept_grant hn h

/-- Settles O50: every kind of change keeps each lease in the list of its target alone. -/
theorem stepKeepsOffers : Obligations.StepKeepsOffers := fun s t hs hst =>
  keptByRows_offers.step (fun _ h => h) (fun h => h) (fun h => h)
    (fun s => offersKept_of_none (fun n => by rw [(powerOn_reads s).2.2.1]; rfl) fun m => by simp) hs hst

end Sys2Proof.Machine
end

section
/-! PROOFS. What every step keeps of the renew lines (R82) and of the lease counts (R9). -/

namespace Sys2Proof.Machine

variable {s t : State}

/-! ### Line bindings (R82) -/

/-- A change of one lease that keeps its line, and leaves it live if it has one; claims may leave the queue. -/
theorem linesKept_of_lease (n : Fin 64) (hother : ∀ k, k ≠ n → t.lease k = s.lease k) (hline : (t.lease n).line = (s.lease n).line)
    (hlive : (s.lease n).line ≠ none → (s.lease n).live = true → (t.lease n).live = true)
    (hbound : ∀ k, (t.line k).bound = (s.line k).bound) (hclaims : t.claims.Sublist s.claims) (hs : s.linesKept) : t.linesKept := by
  obtain ⟨hlives, hbinds, hfree, hpair⟩ := hs
  have hlines (k : Fin 64) : (t.lease k).line = (s.lease k).line := by
    obtain rfl | hk := eq_or_ne k n
    · exact hline
    · rw [hother k hk]
  refine ⟨fun k hk => ?_, fun k j => ?_, fun q hq j hj => ?_, hpair.sublist hclaims⟩
  · rw [hlines] at hk
    obtain rfl | hkn := eq_or_ne k n
    · exact hlive hk (hlives k hk)
    · rw [hother k hkn]
      exact hlives k hk
  · rw [hbound, hlines]
    exact hbinds k j
  · rw [hbound]
    exact hfree q (hclaims.subset hq) j hj

/-- One lease lets its line go. -/
theorem linesKept_unbound (n : Fin 64) (hother : ∀ k, k ≠ n → t.lease k = s.lease k) (hnone : (t.lease n).line = none)
    (hbound : ∀ k, (t.line k).bound = if (s.lease n).line = some k then none else (s.line k).bound) (hclaims : t.claims = s.claims)
    (hs : s.linesKept) : t.linesKept := by
  obtain ⟨hlives, hbinds, hfree, hpair⟩ := hs
  refine ⟨fun k hk => ?_, fun k j => ?_, fun q hq j hj => ?_, hclaims ▸ hpair⟩
  · obtain rfl | hkn := eq_or_ne k n
    · exact absurd hnone hk
    · rw [hother k hkn] at hk ⊢
      exact hlives k hk
  · rw [hbound]
    obtain rfl | hkn := eq_or_ne k n
    · rw [hnone]
      split_ifs with h
      · simp
      · simp [hbinds, h]
    · rw [hother k hkn]
      split_ifs with h
      · have hn := (hbinds n j).2 h
        have hk : (s.lease k).line ≠ some j := fun e => hkn (Option.some_inj.1 (((hbinds k j).2 e).symm.trans hn))
        simp [hk]
      · exact hbinds k j
  · rw [hbound]
    split_ifs
    · rfl
    · exact hfree q (hclaims ▸ hq) j hj

/-- A grant binds a line that is unbound and that no claim left in the queue names. -/
theorem linesKept_grant {q : Claim} {n : Fin 64} {l : List Claim} (hn : (s.lease n).state = .free)
    (hunbound : ∀ k, q.line = some k → (s.line k).bound = none) (hnamed : ∀ p ∈ l, ∀ k, q.line = some k → p.line ≠ some k)
    (hl : l.Sublist s.claims) (hs : s.linesKept) : ((s.grant q n).withClaims l).linesKept := by
  obtain ⟨hlives, hbinds, hfree, hpair⟩ := hs
  have hnone : (s.lease n).line = none := by
    by_contra hline
    simpa [Lease.live, hn] using hlives n hline
  have hlease (k : Fin 64) : (((s.grant q n).withClaims l).lease k).line = if k = n then q.line else (s.lease k).line := by
    simp only [withClaims_keeps, grant_lease]
    split_ifs <;> rfl
  have hline (k : Fin 8) : (((s.grant q n).withClaims l).line k).bound = if q.line = some k then some n else (s.line k).bound := by
    simp only [withClaims_keeps, grant_line]
    split_ifs <;> rfl
  refine ⟨fun k hk => ?_, fun k j => ?_, fun p hp j hj => ?_, hpair.sublist hl⟩
  · simp only [withClaims_keeps, grant_lease]
    rw [hlease] at hk
    split_ifs at hk ⊢
    · rfl
    · exact hlives k hk
  · rw [hlease, hline]
    split_ifs with hj hk hk
    · simp [hj, hk]
    · have : (s.lease k).line ≠ some j := fun e => by simpa [hunbound j hj] using (hbinds k j).2 e
      simp [Ne.symm hk, this]
    · have : (s.line j).bound ≠ some k := fun e => by simpa [hk, hnone] using (hbinds k j).1 e
      simp [hj, this]
    · exact hbinds k j
  · rw [hline, if_neg fun h => hnamed p hp j h hj]
    exact hfree p (hl.subset hp) j hj

theorem Calm.keeps_lines (h : Calm s t) (hs : s.linesKept) : t.linesKept := by
  have hclaims : t.claims.Sublist s.claims := h.keeps.2.2 ▸ List.Sublist.refl _
  cases h with
  | settings | start | stop | wave | config => exact hs
  | renew n stamp _ =>
    exact linesKept_of_lease n (fun k hk => by rw [renewLease_lease, if_neg hk]) (by rw [renewLease_lease, if_pos rfl]; rfl)
      (fun _ _ => by rw [renewLease_lease, if_pos rfl]; rfl) (fun k => by simp) hclaims hs
  | grace n _ =>
    exact linesKept_of_lease n (fun k hk => by rw [enterGrace_lease, if_neg hk]) (by rw [enterGrace_lease, if_pos rfl]; rfl)
      (fun _ _ => by rw [enterGrace_lease, if_pos rfl]; rfl) (fun k => by simp) hclaims hs
  | note n l hsame _ _ =>
    exact linesKept_of_lease n (fun k hk => setLease_lease_other s hk l) (by rw [setLease_lease_same, hsame.line])
      (fun _ hlive => by simpa [Lease.live, hsame.state] using hlive) (fun k => rfl) hclaims hs
  | offer n target _ _ =>
    exact linesKept_of_lease n (fun k hk => by rw [makeOffer_lease, if_neg hk]) (by rw [makeOffer_lease, if_pos rfl])
      (fun _ hlive => by rw [makeOffer_lease, if_pos rfl]; exact hlive) (fun k => by simp) hclaims hs
  | endOffer n =>
    exact linesKept_of_lease n (fun k hk => by rw [endOffer_lease, if_neg hk]) (by rw [endOffer_lease, if_pos rfl])
      (fun _ hlive => by rw [endOffer_lease, if_pos rfl]; exact hlive) (fun k => by simp) hclaims hs
  | add n set _ _ =>
    exact linesKept_of_lease (s := s) n (fun k hk => by simp [setLease_lease_other s hk]) (by simp)
      (fun _ hlive => by simpa [Lease.live] using hlive) (fun k => rfl) hclaims hs
  | line j l hsame =>
    refine linesKept_of_lease (s := s) 0 (fun _ _ => rfl) rfl (fun _ => id) (fun k => ?_) hclaims hs
    rw [setLine_line]
    split_ifs with hk
    · rw [hk, hsame]
    · rfl

theorem Ending.keeps_lines (h : Ending s t) (hs : s.linesKept) : t.linesKept := by
  have hclaims := h.keeps.2.1
  cases h with
  | lapse n why _ =>
    refine linesKept_unbound n (fun k hk => by rw [lapse_lease, if_neg hk]) (by rw [lapse_lease, if_pos rfl]; rfl) (fun k => ?_)
      hclaims hs
    simp only [lapse_keeps, detach_line]
    split_ifs <;> rfl
  | free n =>
    refine linesKept_unbound n (fun k hk => by rw [freeLease_lease, if_neg hk]) (by rw [freeLease_lease, if_pos rfl]; rfl) (fun k => ?_)
      hclaims hs
    rw [(freeLease_reads s n).2.1, detach_line]
    split_ifs with hlive hline hline
    · rfl
    · rfl
    · exact absurd (hs.1 n (by simp [hline])) hlive
    · rfl
  | accept n m _ _ _ =>
    exact linesKept_of_lease n (fun k hk => by rw [acceptLease_lease, if_neg hk]) (by rw [acceptLease_lease, if_pos rfl]; rfl)
      (fun _ hlive => by rw [acceptLease_lease, if_pos rfl]; exact hlive) (fun k => by simp) (hclaims ▸ List.Sublist.refl _) hs
  | drop n set _ _ _ =>
    exact linesKept_of_lease (s := s) n (fun k hk => by simp [setLease_lease_other _ hk]) (by simp)
      (fun _ hlive => by simpa [Lease.live] using hlive) (fun k => rfl) (hclaims ▸ List.Sublist.refl _) hs
  | withdraw m =>
    have hlease (n : Fin 64) : ((s.withdrawOffersTo m).lease n).line = (s.lease n).line
        ∧ ((s.withdrawOffersTo m).lease n).live = (s.lease n).live := by
      rw [withdrawOffersTo_lease]
      split_ifs <;> exact ⟨rfl, rfl⟩
    simpa only [State.linesKept, hlease, withdrawOffersTo_keeps] using hs
  | stall => exact hs

theorem linesKept_of_none (hlease : ∀ n, (s.lease n).line = none) (hline : ∀ k, (s.line k).bound = none) (hclaims : s.claims = []) :
    s.linesKept := by
  simp [State.linesKept, hlease, hline, hclaims]

theorem keptByRows_lines : KeptByRows Always fun s => s.linesKept where
  setWindow _ _ _ h := h
  mapWindows _ h := h
  removeClaims {s} _ h := linesKept_of_lease (s := s) 0 (fun _ _ => rfl) rfl (fun _ => id) (fun _ => rfl) List.filter_sublist h
  joined q _ hq _ h := by
    obtain ⟨hlives, hbinds, hfree, hpair⟩ := h
    refine ⟨hlives, hbinds, fun p hp k hk => ?_, ?_⟩
    · obtain hp | hp := List.mem_append.1 hp
      · exact hfree p hp k hk
      · obtain rfl := List.mem_singleton.1 hp
        by_contra hbound
        exact hq.line k hk (.inl hbound)
    · refine List.pairwise_append.2 ⟨hpair, List.pairwise_singleton _ _, fun p hp p' hp' => ?_⟩
      obtain rfl := List.mem_singleton.1 hp'
      rintro ⟨hsome, heq⟩
      obtain ⟨k, hk⟩ := Option.ne_none_iff_exists'.1 hsome
      exact hq.line k (heq ▸ hk) (.inr ⟨p, hp, hk⟩)
  drained _ _ _ h := h
  configured _ _ _ _ _ _ h := h
  disabled _ _ _ h := h
  calm hst _ h := hst.keeps_lines h
  ending hst _ h := hst.keeps_lines h
  granted {s} q n hq _ hn _ h := by
    have := linesKept_grant (l := s.claims) hn (fun k hk => by_contra fun hbound => hq.line k hk (.inl hbound))
      (fun p hp k hk hpk => hq.line k hk (.inr ⟨p, hp, hpk⟩)) (.refl _) h
    simpa only [State.linesKept, withClaims_keeps, grant_keeps] using this
  tableReset _ _ := linesKept_of_none (fun n => by rw [resetTable_lease]; rfl) (fun k => by simp) rfl
  scanGranted older newer q n hclaims _ hn _ h := by
    have hmem : q ∈ older ++ q :: newer := by simp
    have hpair := h.2.2.2
    rw [hclaims, List.pairwise_append, List.pairwise_cons] at hpair
    obtain ⟨-, ⟨hnewer, -⟩, holder⟩ := hpair
    refine linesKept_grant hn (h.2.2.1 q (hclaims ▸ hmem)) (fun p hp k hk hpk => ?_) ?_ h
    · obtain hp | hp := List.mem_append.1 hp
      · exact holder p hp q (by simp) ⟨by simp [hpk], hpk.trans hk.symm⟩
      · exact hnewer p hp ⟨by simp [hk], hk.trans hpk.symm⟩
    · rw [hclaims]
      exact (List.sublist_cons_self q newer).append_left older

/-- Settles O54: every kind of change keeps each binding on both its sides, and the lines that claims name unbound. -/
theorem stepKeepsLineBindings : Obligations.StepKeepsLineBindings := fun s t hs hst =>
  keptByRows_lines.step (fun _ h => h) (fun h => h) (fun h => h)
    (fun s => linesKept_of_none (fun n => by rw [(powerOn_reads s).2.2.1]; rfl) (fun k => by simp [Line.powerOn]) rfl) hs hst

/-! ### Lease counts (R9) -/

/-- Lease `l` counts against master `m`. -/
def Lease.countsFor (l : Lease) (m : Fin 8) : Bool := l.state != .free && l.holder == some m

theorem Lease.countsFor_iff {l : Lease} {m : Fin 8} : l.countsFor m = true ↔ l.state ≠ .free ∧ l.holder = some m := by
  simp [Lease.countsFor]

theorem countsKept_iff : s.countsKept ↔ (∀ n, (s.lease n).state = .free → (s.lease n).holder = none)
    ∧ ∀ m, (s.master m).count = (List.finRange 64).countP fun n => (s.lease n).countsFor m := Iff.rfl

/-- A count over all records, with one record apart. -/
theorem countP_finRange_split (p : Fin 64 → Bool) (n : Fin 64) :
    (List.finRange 64).countP p = ((List.finRange 64).erase n).countP p + if p n then 1 else 0 := by
  rw [(List.perm_cons_erase (List.mem_finRange n)).countP_eq, List.countP_cons]

/-- One record changes, and the counts of the masters with it. -/
theorem countsKept_of_lease (n : Fin 64) (hother : ∀ k, k ≠ n → t.lease k = s.lease k)
    (hfree : ((s.lease n).state = .free → (s.lease n).holder = none) → (t.lease n).state = .free → (t.lease n).holder = none)
    (hcount : (∀ m, (s.lease n).countsFor m = true → 1 ≤ (s.master m).count) → ∀ m,
      (t.master m).count + (if (s.lease n).countsFor m then 1 else 0) = (s.master m).count + if (t.lease n).countsFor m then 1 else 0)
    (hs : s.countsKept) : t.countsKept := by
  obtain ⟨hholder, hcounts⟩ := countsKept_iff.1 hs
  refine countsKept_iff.2 ⟨fun k hk => ?_, fun m => ?_⟩
  · obtain rfl | hkn := eq_or_ne k n
    · exact hfree (hholder k) hk
    · rw [hother k hkn] at hk ⊢
      exact hholder k hk
  · have hrest : ((List.finRange 64).erase n).countP (fun k => (t.lease k).countsFor m)
        = ((List.finRange 64).erase n).countP fun k => (s.lease k).countsFor m := by
      refine List.countP_congr fun k hk => ?_
      rw [hother k ((List.nodup_finRange 64).mem_erase_iff.1 hk).1]
    have hpositive (m : Fin 8) (h : (s.lease n).countsFor m = true) : 1 ≤ (s.master m).count := by
      rw [hcounts m, countP_finRange_split _ n, if_pos h]
      exact Nat.le_add_left _ _
    have hs' := hcounts m
    rw [countP_finRange_split _ n] at hs' ⊢
    rw [hrest]
    have := hcount hpositive m
    omega

/-- Records whose state, FREE or not, and holder stay, under masters whose counts stay. -/
theorem countsKept_congr (hlease : ∀ n, ((t.lease n).state = .free ↔ (s.lease n).state = .free) ∧ (t.lease n).holder = (s.lease n).holder)
    (hmaster : ∀ m, (t.master m).count = (s.master m).count) (hs : s.countsKept) : t.countsKept := by
  obtain ⟨hholder, hcounts⟩ := countsKept_iff.1 hs
  have hcountsFor (n : Fin 64) (m : Fin 8) : (t.lease n).countsFor m = (s.lease n).countsFor m := by
    rw [Bool.eq_iff_iff, Lease.countsFor_iff, Lease.countsFor_iff, (hlease n).2, ne_eq, ne_eq, (hlease n).1]
  exact countsKept_iff.2 ⟨fun n hn => by rw [(hlease n).2]; exact hholder n ((hlease n).1.1 hn),
    fun m => by rw [hmaster, hcounts]; simp only [hcountsFor]⟩

/-- A calm change frees no record, grants none, ends none, and moves none to another holder. -/
theorem Calm.keeps_standing (h : Calm s t) (n : Fin 64) :
    ((t.lease n).state = .free ↔ (s.lease n).state = .free) ∧ (t.lease n).holder = (s.lease n).holder
    ∧ (t.lease n).generation = (s.lease n).generation ∧ (t.lease n).live = (s.lease n).live ∧ (t.lease n).base = (s.lease n).base := by
  cases h with
  | settings | start | stop | wave | config | line => exact ⟨Iff.rfl, rfl, rfl, rfl, rfl⟩
  | renew k stamp hlive =>
    rw [renewLease_lease]
    split_ifs with h
    · subst h
      exact ⟨by simp [Lease.renewed, show (s.lease n).state ≠ .free from fun hfree => by simp [Lease.live, hfree] at hlive], rfl, rfl,
        hlive.symm, rfl⟩
    · exact ⟨Iff.rfl, rfl, rfl, rfl, rfl⟩
  | grace k hheld =>
    rw [enterGrace_lease]
    split_ifs with h
    · subst h
      exact ⟨by simp [Lease.intoGrace, Lease.raise, hheld], rfl, rfl, by simp [Lease.intoGrace, Lease.raise, Lease.live, hheld], rfl⟩
    · exact ⟨Iff.rfl, rfl, rfl, rfl, rfl⟩
  | note k l hsame _ _ =>
    rw [setLease_lease]
    split_ifs with h
    · subst h
      exact ⟨by rw [hsame.state], hsame.holder, hsame.generation, by rw [Lease.live, Lease.live, hsame.state], hsame.base⟩
    · exact ⟨Iff.rfl, rfl, rfl, rfl, rfl⟩
  | offer k target _ _ =>
    rw [makeOffer_lease]
    split_ifs with h
    · subst h
      exact ⟨Iff.rfl, rfl, rfl, rfl, rfl⟩
    · exact ⟨Iff.rfl, rfl, rfl, rfl, rfl⟩
  | endOffer k =>
    rw [endOffer_lease]
    split_ifs with h
    · subst h
      exact ⟨Iff.rfl, rfl, rfl, rfl, rfl⟩
    · exact ⟨Iff.rfl, rfl, rfl, rfl, rfl⟩
  | add k set _ _ =>
    simp only [governChannels_keeps, setLease_lease]
    split_ifs with h
    · subst h
      exact ⟨Iff.rfl, rfl, rfl, rfl, rfl⟩
    · exact ⟨Iff.rfl, rfl, rfl, rfl, rfl⟩

theorem Ending.keeps_counts (h : Ending s t) (hs : s.countsKept) : t.countsKept := by
  cases h with
  | lapse n why _ =>
    refine countsKept_of_lease n (fun k hk => by rw [lapse_lease, if_neg hk]) (fun _ hlapsed => ?_) (fun _ m => ?_) hs
    · rw [lapse_lease, if_pos rfl] at hlapsed
      cases hlapsed
    · rw [lapse_lease, if_pos rfl, (lapse_keeps s n why).2.1]
      have : ((s.lease n).afterLapse why).countsFor m = (s.lease n).countsFor m := by
        rw [Bool.eq_iff_iff, Lease.countsFor_iff, Lease.countsFor_iff]
        refine and_congr_left fun hholder => iff_of_true LeaseState.noConfusion fun hfree => ?_
        simp [hs.1 n hfree, Lease.afterLapse] at hholder
      rw [this]
  | free n =>
    refine countsKept_of_lease n (fun k hk => by rw [freeLease_lease, if_neg hk]) (fun _ _ => by rw [freeLease_lease, if_pos rfl]; rfl)
      (fun hone m => ?_) hs
    rw [freeLease_lease, if_pos rfl, freeLease_master]
    have hblank : (Lease.rest (s.lease n).generation).countsFor m = false := rfl
    simp only [hblank, Bool.false_eq_true, if_false]
    by_cases hcounts : (s.lease n).countsFor m = true
    · have := hone m hcounts
      simp only [hcounts, (Lease.countsFor_iff.1 hcounts).2, if_true]
      omega
    · have hholder : (s.lease n).holder ≠ some m := fun h =>
        hcounts (Lease.countsFor_iff.2 ⟨fun hfree => by simp [hs.1 n hfree] at h, h⟩)
      simp [hcounts, hholder]
  | accept n m hstate _ _ =>
    refine countsKept_of_lease n (fun k hk => by rw [acceptLease_lease, if_neg hk]) (fun _ hfree => ?_) (fun hone k => ?_) hs
    · rw [acceptLease_lease, if_pos rfl] at hfree
      exact absurd hfree hstate
    · rw [acceptLease_lease, if_pos rfl, acceptLease_master]
      have hnew : ((s.lease n).acceptedBy m).countsFor k = true ↔ k = m := by
        rw [Lease.countsFor_iff]
        simp [Lease.acceptedBy, hstate, eq_comm]
      have hold : (s.lease n).countsFor k = true ↔ (s.lease n).holder = some k := by simp [Lease.countsFor_iff, hstate]
      have := hone k
      simp only [hnew, hold] at this ⊢
      split_ifs at this ⊢ <;> simp_all <;> omega
  | drop n set _ _ _ =>
    refine countsKept_congr (s := s) (fun k => ?_) (fun m => by simp) hs
    rw [setLease_lease]
    split_ifs with h
    · subst h
      exact ⟨Iff.rfl, rfl⟩
    · simp
  | withdraw m =>
    refine countsKept_congr (fun n => ?_) (fun k => by simp) hs
    rw [withdrawOffersTo_lease]
    split_ifs <;> exact ⟨Iff.rfl, rfl⟩
  | stall => exact hs

/-- A grant of a FREE record raises its master's count. -/
theorem countsKept_grant {q : Claim} {n : Fin 64} (hn : (s.lease n).state = .free) (hs : s.countsKept) : (s.grant q n).countsKept := by
  refine countsKept_of_lease n (fun k hk => by rw [grant_lease, if_neg hk]) (fun _ hfree => ?_) (fun _ m => ?_) hs
  · rw [grant_lease, if_pos rfl] at hfree
    cases hfree
  · rw [grant_lease, if_pos rfl, grant_master]
    have hnew : (q.granted (s.lease n) (s.now q.base)).countsFor m = true ↔ m = q.master := by
      rw [Lease.countsFor_iff]
      simp [Claim.granted, eq_comm]
    have hold : (s.lease n).countsFor m = false := by simp [Lease.countsFor, hn]
    simp only [hnew, hold, Bool.false_eq_true, if_false]
    split_ifs with h
    · rw [h]
    · rfl

theorem countsKept_of_free (hfree : ∀ n, (s.lease n).state = .free ∧ (s.lease n).holder = none) (hcount : ∀ m, (s.master m).count = 0) :
    s.countsKept := by
  simp [State.countsKept, hfree, hcount]

theorem keptByRows_counts : KeptByRows Always fun s => s.countsKept where
  setWindow _ _ _ h := h
  mapWindows _ h := h
  removeClaims _ h := h
  joined _ _ _ _ h := h
  drained _ _ _ h := h
  configured {s} k r hcount _ _ _ h := by
    refine countsKept_congr (s := s) (fun _ => ⟨Iff.rfl, rfl⟩) (fun m => ?_) h
    rw [setMaster_master]
    split_ifs with hm
    · rw [hm, hcount]
    · rfl
  disabled {s} k _ hnone h := by
    refine ⟨h.1, fun m => ?_⟩
    rw [setMaster_master]
    split_ifs with hm
    · subst hm
      refine (List.countP_eq_zero.2 fun n _ => ?_).symm
      simp [hnone]
    · exact h.2 m
  calm hst _ h := countsKept_congr (fun n => ⟨(hst.keeps_standing n).1, (hst.keeps_standing n).2.1⟩) (fun m => by rw [hst.keeps.2.1]) h
  ending hst _ h := hst.keeps_counts h
  granted _ _ _ _ hn _ h := countsKept_grant hn h
  tableReset _ _ := countsKept_of_free (fun n => by rw [resetTable_lease]; exact ⟨rfl, rfl⟩) (fun m => by simp)
  scanGranted _ _ _ _ _ _ hn _ h := countsKept_grant hn h

/-- Settles O55: every kind of change keeps each count at the number of records that name its master. -/
theorem stepKeepsLeaseCounts : Obligations.StepKeepsLeaseCounts := fun s t hs hst =>
  keptByRows_counts.step (fun _ h => h) (fun h => h) (fun h => h)
    (fun s => countsKept_of_free (fun n => by rw [(powerOn_reads s).2.2.1]; exact ⟨rfl, rfl⟩) (fun m => by simp [Master.powerOn])) hs hst

end Sys2Proof.Machine
end

section
/-! PROOFS. What every step keeps of the channels: who governs them (R115, R119, R120, R2) and what their waveform fields hold (R129). -/

namespace Sys2Proof.Machine

variable {s t : State}

/-! ### A channel by itself -/

/-- What `State.channelsKept` says of one channel by itself. -/
structure Channel.Sound (ch : Channel) : Prop where
  governed : ch.governing ≠ none ↔ (ch.state = .active ∨ ch.state = .parked)
  idle : ch.state = .idle → ch.wave = Channel.powerOn.wave
  draining : ch.state = .draining → ch.wave.mode = .periodic

theorem Channel.Sound.governing_eq_none {ch : Channel} (h : ch.Sound) (hactive : ch.state ≠ .active) (hparked : ch.state ≠ .parked) :
    ch.governing = none := by
  by_contra hgoverning
  exact (h.governed.1 hgoverning).elim hactive hparked

theorem Channel.sound_enterIdle (ch : Channel) : ch.enterIdle.Sound := ⟨by simp [Channel.enterIdle], fun _ => rfl, by simp [Channel.enterIdle]⟩

theorem Channel.sound_enterActive (ch : Channel) (n : Fin 64) : (ch.enterActive n).Sound :=
  ⟨by simp [Channel.enterActive], by simp [Channel.enterActive], by simp [Channel.enterActive]⟩

/-- R118: a channel that a lease lets go is governed by none. -/
theorem Channel.Sound.release {ch : Channel} (h : ch.Sound) : ch.release.Sound ∧ ch.release.governing = none := by
  unfold Channel.release
  split_ifs with hdrains hgoverned
  · obtain ⟨-, hmode, -⟩ := (channel_drains_iff ch).1 hdrains
    exact ⟨⟨by simp, by simp, fun _ => hmode⟩, rfl⟩
  · exact ⟨ch.sound_enterIdle, rfl⟩
  · rw [channel_governed_iff, not_or] at hgoverned
    exact ⟨h, h.governing_eq_none hgoverned.1 hgoverned.2⟩

theorem Channel.Sound.park {ch : Channel} (h : ch.Sound) : ch.park.Sound ∧ ch.park.governing = ch.governing := by
  unfold Channel.park
  split_ifs with hactive
  · exact ⟨⟨by simpa [hactive] using h.governed, by simp, by simp⟩, rfl⟩
  · exact ⟨h, rfl⟩

theorem Channel.Sound.unpark {ch : Channel} (h : ch.Sound) :
    ch.unpark.Sound ∧ ch.unpark.governing = ch.governing ∧ ch.unpark.state ≠ .parked := by
  unfold Channel.unpark
  split_ifs with hparked
  · exact ⟨⟨by simpa [hparked] using h.governed, by simp, by simp⟩, rfl, by simp⟩
  · exact ⟨h, rfl, hparked⟩

/-! ### Channels and the leases that govern them -/

/-- What `State.channelsKept` says of channels and leases together. -/
structure State.Governs (s : State) : Prop where
  lease : ∀ (c : Fin 16) (n : Fin 64), (s.channel c).governing = some n →
    (s.lease n).live = true ∧ (s.lease n).channels.getLsbD c.val = true ∧ ((s.channel c).state = .parked → (s.lease n).state = .grace)
  listed : ∀ (n : Fin 64) (c : Fin 16), (s.lease n).channels.getLsbD c.val = true → (s.channel c).governing = some n
  some : ∀ n : Fin 64, (s.lease n).live = true → (s.lease n).channels ≠ 0

theorem channelsKept_iff : s.channelsKept ↔ (∀ c, (s.channel c).Sound) ∧ s.Governs ∧ ∀ q ∈ s.claims, q.channels ≠ 0 :=
  ⟨fun ⟨hchannel, h1, h2, h3, hclaims⟩ => ⟨fun c => ⟨(hchannel c).1, (hchannel c).2.1, (hchannel c).2.2⟩, ⟨h1, h2, h3⟩, hclaims⟩,
    fun ⟨hchannel, ⟨h1, h2, h3⟩, hclaims⟩ => ⟨fun c => ⟨(hchannel c).governed, (hchannel c).idle, (hchannel c).draining⟩, h1, h2, h3, hclaims⟩⟩

/-- A record that is not live lists no channel. -/
theorem State.Governs.not_listed (h : s.Governs) {n : Fin 64} (hlive : ¬ (s.lease n).live = true) (c : Fin 16) :
    (s.lease n).channels.getLsbD c.val = false := by
  by_contra hlisted
  rw [Bool.not_eq_false] at hlisted
  exact hlive (h.lease c n (h.listed n c hlisted)).1

/-- Leases keep their states and sets, channels their states and governors. -/
theorem State.Governs.congr (hlease : ∀ n, (t.lease n).state = (s.lease n).state ∧ (t.lease n).channels = (s.lease n).channels)
    (hchannel : ∀ c, (t.channel c).state = (s.channel c).state ∧ (t.channel c).governing = (s.channel c).governing) (h : s.Governs) :
    t.Governs := by
  have hlive (n : Fin 64) : (t.lease n).live = (s.lease n).live := by rw [Lease.live, Lease.live, (hlease n).1]
  refine ⟨fun c n hc => ?_, fun n c hc => ?_, fun n hn => ?_⟩
  · rw [(hchannel c).2] at hc
    rw [hlive, (hlease n).2, (hchannel c).1, (hlease n).1]
    exact h.lease c n hc
  · rw [(hlease n).2] at hc
    rw [(hchannel c).2]
    exact h.listed n c hc
  · rw [hlive] at hn
    rw [(hlease n).2]
    exact h.some n hn

/-- Leases keep their states and sets, and channels stay. -/
theorem channelsKept_congr (hlease : ∀ n, (t.lease n).state = (s.lease n).state ∧ (t.lease n).channels = (s.lease n).channels)
    (hchannel : ∀ c, t.channel c = s.channel c) (hclaims : ∀ q ∈ t.claims, q.channels ≠ 0) (hs : s.channelsKept) : t.channelsKept := by
  obtain ⟨hsound, hgoverns, -⟩ := channelsKept_iff.1 hs
  exact channelsKept_iff.2 ⟨fun c => hchannel c ▸ hsound c, hgoverns.congr hlease fun c => by simp [hchannel], hclaims⟩

/-- A lease lets every channel it lists go, and is live no longer. -/
theorem channelsKept_let_go (n : Fin 64) (hother : ∀ k, k ≠ n → t.lease k = s.lease k) (hdead : (t.lease n).live = false)
    (hnone : (t.lease n).channels = 0)
    (hchannel : ∀ c, t.channel c = if (s.lease n).channels.getLsbD c.val then (s.channel c).release else s.channel c)
    (hclaims : t.claims = s.claims) (hs : s.channelsKept) : t.channelsKept := by
  obtain ⟨hsound, hgoverns, hwait⟩ := channelsKept_iff.1 hs
  have hgoverning (c : Fin 16) (k : Fin 64) : (t.channel c).governing = some k ↔ k ≠ n ∧ (s.channel c).governing = some k := by
    rw [hchannel]
    split_ifs with hlisted
    · rw [(hsound c).release.2, hgoverns.listed n c hlisted]
      simp [eq_comm]
    · refine ⟨fun hk => ⟨?_, hk⟩, And.right⟩
      rintro rfl
      exact hlisted (hgoverns.lease c k hk).2.1
  have hsame (c : Fin 16) (k : Fin 64) (hk : (t.channel c).governing = some k) : t.channel c = s.channel c := by
    rw [hchannel, if_neg]
    intro hlisted
    have hck := (hgoverning c k).1 hk
    rw [hgoverns.listed n c hlisted, Option.some_inj] at hck
    exact hck.1 hck.2.symm
  refine channelsKept_iff.2 ⟨fun c => ?_, ⟨fun c k hk => ?_, fun k c hk => ?_, fun k hk => ?_⟩, hclaims ▸ hwait⟩
  · rw [hchannel]
    split_ifs
    · exact (hsound c).release.1
    · exact hsound c
  · obtain ⟨hkn, hk'⟩ := (hgoverning c k).1 hk
    rw [hother k hkn, hsame c k hk]
    exact hgoverns.lease c k hk'
  · obtain rfl | hkn := eq_or_ne k n
    · simp [hnone] at hk
    · rw [hother k hkn] at hk
      exact (hgoverning c k).2 ⟨hkn, hgoverns.listed k c hk⟩
  · obtain rfl | hkn := eq_or_ne k n
    · simp [hdead] at hk
    · rw [hother k hkn] at hk ⊢
      exact hgoverns.some k hk

/-- A lease takes IDLE channels, and lists those it took and those it listed. -/
theorem channelsKept_take (n : Fin 64) (set : ChannelSet) (hother : ∀ k, k ≠ n → t.lease k = s.lease k) (hlive : (t.lease n).live = true)
    (hgrace : (s.lease n).state = .grace → (t.lease n).state = .grace) (hsome : (t.lease n).channels ≠ 0)
    (hlists : ∀ c : Fin 16, (t.lease n).channels.getLsbD c.val = ((s.lease n).channels.getLsbD c.val || set.getLsbD c.val))
    (hidle : ∀ c : Fin 16, set.getLsbD c.val = true → (s.channel c).state = .idle)
    (hchannel : ∀ c, t.channel c = if set.getLsbD c.val then (s.channel c).enterActive n else s.channel c)
    (hclaims : ∀ q ∈ t.claims, q ∈ s.claims) (hs : s.channelsKept) : t.channelsKept := by
  obtain ⟨hsound, hgoverns, hwait⟩ := channelsKept_iff.1 hs
  refine channelsKept_iff.2 ⟨fun c => ?_, ⟨fun c k hk => ?_, fun k c hk => ?_, fun k hk => ?_⟩, fun q hq => hwait q (hclaims q hq)⟩
  · rw [hchannel]
    split_ifs
    · exact (s.channel c).sound_enterActive n
    · exact hsound c
  · rw [hchannel] at hk ⊢
    split_ifs at hk ⊢ with hc
    · obtain rfl : n = k := Option.some_inj.1 hk
      exact ⟨hlive, by rw [hlists, hc, Bool.or_true], ChannelState.noConfusion⟩
    · obtain ⟨hk1, hk2, hk3⟩ := hgoverns.lease c k hk
      obtain rfl | hkn := eq_or_ne k n
      · exact ⟨hlive, by rw [hlists, hk2, Bool.true_or], fun hparked => hgrace (hk3 hparked)⟩
      · rw [hother k hkn]
        exact ⟨hk1, hk2, hk3⟩
  · rw [hchannel]
    have hgoverned (k : Fin 64) (hk : (s.lease k).channels.getLsbD c.val = true) : ¬ set.getLsbD c.val = true := fun hc => by
      have hnone := (hsound c).governing_eq_none (by simp [hidle c hc]) (by simp [hidle c hc])
      rw [hgoverns.listed k c hk] at hnone
      cases hnone
    obtain rfl | hkn := eq_or_ne k n
    · rw [hlists, Bool.or_eq_true] at hk
      split_ifs with hc
      · rfl
      · exact hgoverns.listed k c (hk.resolve_right hc)
    · rw [hother k hkn] at hk
      rw [if_neg (hgoverned k hk)]
      exact hgoverns.listed k c hk
  · obtain rfl | hkn := eq_or_ne k n
    · exact hsome
    · rw [hother k hkn] at hk ⊢
      exact hgoverns.some k hk

/-- One channel changes, and keeps its state and governor. -/
theorem channelsKept_setChannel {c : Fin 16} {ch : Channel} (hstate : ch.state = (s.channel c).state)
    (hgoverning : ch.governing = (s.channel c).governing) (hsound : (s.channel c).Sound → s.Governs → ch.Sound) (hs : s.channelsKept) :
    (s.setChannel c ch).channelsKept := by
  obtain ⟨hall, hgoverns, hwait⟩ := channelsKept_iff.1 hs
  refine channelsKept_iff.2 ⟨fun d => ?_, State.Governs.congr (s := s) (fun _ => ⟨rfl, rfl⟩) (fun d => ?_) hgoverns, hwait⟩ <;> rw [setChannel_channel] <;>
    split_ifs with hd
  · exact hsound (hall c) hgoverns
  · exact hall d
  · rw [hd]
    exact ⟨hstate, hgoverning⟩
  · exact ⟨rfl, rfl⟩

/-- A live lease changes its state, and its channels are parked or unparked with it. -/
theorem channelsKept_restate (n : Fin 64) (hother : ∀ k, k ≠ n → t.lease k = s.lease k) (hwas : (s.lease n).live = true)
    (hlive : (t.lease n).live = true) (hset : (t.lease n).channels = (s.lease n).channels)
    (hsound : ∀ c, (s.channel c).Sound → (t.channel c).Sound) (hgoverning : ∀ c, (s.channel c).Sound →
      (t.channel c).governing = (s.channel c).governing)
    (hstate : ∀ c, ¬ (s.lease n).channels.getLsbD c.val = true → (t.channel c).state = (s.channel c).state)
    (hparked : ∀ c, (s.channel c).Sound → ((s.channel c).state = .parked → (s.lease n).state = .grace) →
      (s.lease n).channels.getLsbD c.val = true → (t.channel c).state = .parked → (t.lease n).state = .grace)
    (hclaims : t.claims = s.claims) (hs : s.channelsKept) : t.channelsKept := by
  obtain ⟨hall, hgoverns, hwait⟩ := channelsKept_iff.1 hs
  refine channelsKept_iff.2 ⟨fun c => hsound c (hall c), ⟨fun c k hk => ?_, fun k c hk => ?_, fun k hk => ?_⟩, hclaims ▸ hwait⟩
  · rw [hgoverning c (hall c)] at hk
    obtain ⟨hk1, hk2, hk3⟩ := hgoverns.lease c k hk
    obtain rfl | hkn := eq_or_ne k n
    · exact ⟨hlive, hset ▸ hk2, hparked c (hall c) hk3 hk2⟩
    · have hnot : ¬ (s.lease n).channels.getLsbD c.val = true := fun hlisted =>
        hkn (Option.some_inj.1 (hk.symm.trans (hgoverns.listed n c hlisted)))
      rw [hother k hkn, hstate c hnot]
      exact ⟨hk1, hk2, hk3⟩
  · rw [hgoverning c (hall c)]
    obtain rfl | hkn := eq_or_ne k n
    · exact hgoverns.listed k c (hset ▸ hk)
    · exact hgoverns.listed k c (hother k hkn ▸ hk)
  · obtain rfl | hkn := eq_or_ne k n
    · rw [hset]
      exact hgoverns.some k hwas
    · rw [hother k hkn] at hk ⊢
      exact hgoverns.some k hk

/-- A lease lets some but not all of its channels go. -/
theorem channelsKept_drop {n : Fin 64} {set : ChannelSet} (hlive : (s.lease n).live = true)
    (hsub : ∀ c : Fin 16, set.getLsbD c.val = true → (s.lease n).channels.getLsbD c.val = true)
    (hrest : (s.lease n).channels &&& ~~~set ≠ 0) (hs : s.channelsKept) :
    ((s.releaseChannels set).setLease n { s.lease n with channels := (s.lease n).channels &&& ~~~set }).channelsKept := by
  obtain ⟨hsound, hgoverns, hwait⟩ := channelsKept_iff.1 hs
  set t := (s.releaseChannels set).setLease n { s.lease n with channels := (s.lease n).channels &&& ~~~set } with ht
  have hsame : t.lease n = { s.lease n with channels := (s.lease n).channels &&& ~~~set } := setLease_lease_same _ n _
  have hother (k : Fin 64) (hk : k ≠ n) : t.lease k = s.lease k := by simp [ht, setLease_lease_other _ hk]
  have hlists (c : Fin 16) : (t.lease n).channels.getLsbD c.val = ((s.lease n).channels.getLsbD c.val && !set.getLsbD c.val) := by
    simp [hsame, -BitVec.getLsbD_eq_getElem]
  have hchannel (c : Fin 16) : t.channel c = if set.getLsbD c.val then (s.channel c).release else s.channel c := by simp [ht]
  refine channelsKept_iff.2 ⟨fun c => ?_, ⟨fun c k hk => ?_, fun k c hk => ?_, fun k hk => ?_⟩, hwait⟩
  · rw [hchannel]
    split_ifs
    · exact (hsound c).release.1
    · exact hsound c
  · rw [hchannel] at hk ⊢
    split_ifs at hk ⊢ with hc
    · simp [(hsound c).release.2] at hk
    · obtain ⟨hk1, hk2, hk3⟩ := hgoverns.lease c k hk
      obtain rfl | hkn := eq_or_ne k n
      · exact ⟨by rw [hsame]; exact hlive, by rw [hlists, hk2, Bool.eq_false_of_not_eq_true hc]; rfl, by rw [hsame]; exact hk3⟩
      · rw [hother k hkn]
        exact ⟨hk1, hk2, hk3⟩
  · rw [hchannel]
    obtain rfl | hkn := eq_or_ne k n
    · rw [hlists, Bool.and_eq_true] at hk
      rw [if_neg (by simpa using hk.2)]
      exact hgoverns.listed k c hk.1
    · rw [hother k hkn] at hk
      have hck := hgoverns.listed k c hk
      rw [if_neg fun hc => hkn (Option.some_inj.1 (hck.symm.trans (hgoverns.listed n c (hsub c hc))))]
      exact hck
  · obtain rfl | hkn := eq_or_ne k n
    · rw [hsame]
      exact hrest
    · rw [hother k hkn] at hk ⊢
      exact hgoverns.some k hk

theorem Calm.keeps_channels (h : Calm s t) (hs : s.channelsKept) : t.channelsKept := by
  have hwait : ∀ q ∈ t.claims, q.channels ≠ 0 := h.keeps.2.2 ▸ hs.2.2.2.2
  cases h with
  | settings | start | stop | line => exact hs
  | renew n stamp hlive =>
    refine channelsKept_restate n (fun k hk => by rw [renewLease_lease, if_neg hk]) hlive (by rw [renewLease_lease, if_pos rfl]; rfl)
      (by rw [renewLease_lease, if_pos rfl]; rfl) (fun c hc => ?_) (fun c hc => ?_) (fun c hc => ?_) (fun c hsound hc hlisted => ?_)
      (by simp) hs <;> rw [renewLease_channel]
    · split_ifs
      · exact hc.unpark.1
      · exact hc
    · split_ifs
      · exact hc.unpark.2.1
      · rfl
    · rw [if_neg (fun h => hc h.2)]
    · split_ifs with hgrace
      · exact fun hparked => absurd hparked hsound.unpark.2.2
      · exact fun hparked => absurd ⟨hc hparked, hlisted⟩ hgrace
  | grace n hheld =>
    refine channelsKept_restate n (fun k hk => by rw [enterGrace_lease, if_neg hk]) ((lease_live_iff _).2 (.inl hheld))
      (by rw [enterGrace_lease, if_pos rfl]; rfl) (by rw [enterGrace_lease, if_pos rfl]; rfl) (fun c hc => ?_) (fun c hc => ?_)
      (fun c hc => ?_) (fun c _ _ _ _ => by rw [enterGrace_lease, if_pos rfl]; rfl) (by simp) hs <;> rw [enterGrace_channel]
    · split_ifs
      · exact hc.park.1
      · exact hc
    · split_ifs
      · exact hc.park.2
      · rfl
    · rw [if_neg (fun h => hc h.2)]
  | note n l hsame _ _ =>
    refine channelsKept_congr (s := s) (fun k => ?_) (fun _ => rfl) hwait hs
    rw [setLease_lease]
    split_ifs with hk
    · exact hk ▸ ⟨hsame.state, hsame.channels⟩
    · exact ⟨rfl, rfl⟩
  | offer n target _ _ =>
    refine channelsKept_congr (fun k => ?_) (fun _ => by simp) hwait hs
    rw [makeOffer_lease]
    split_ifs with hk
    · exact hk ▸ ⟨rfl, rfl⟩
    · exact ⟨rfl, rfl⟩
  | endOffer n =>
    refine channelsKept_congr (fun k => ?_) (fun _ => by simp) hwait hs
    rw [endOffer_lease]
    split_ifs with hk
    · exact hk ▸ ⟨rfl, rfl⟩
    · exact ⟨rfl, rfl⟩
  | add n set hlive hidle =>
    refine channelsKept_take (s := s) n set (fun k hk => by simp [setLease_lease_other s hk]) (by simpa [Lease.live] using hlive)
      (fun h => by simpa using h) ?_ (fun c => ?_) hidle (fun c => by simp) (fun q hq => hq) hs <;>
      simp only [governChannels_keeps, setLease_lease_same]
    · intro hzero
      exact hs.2.2.2.1 n hlive (BitVec.or_eq_zero_iff.1 hzero).1
    · exact BitVec.getLsbD_or
  | wave c v _ hworking =>
    refine channelsKept_setChannel rfl rfl (fun hsound hgoverns => ⟨hsound.governed, fun hidle => ?_, fun hdraining => ?_⟩) hs <;>
      rcases hworking with ⟨n, hn⟩ | ⟨hmode, hsame⟩
    · have := hsound.governing_eq_none (by simp_all) (by simp_all)
      simp [hgoverns.listed n c hn] at this
    · exact absurd (by rw [hsound.idle hidle]; rfl) hmode
    · have := hsound.governing_eq_none (by simp_all) (by simp_all)
      simp [hgoverns.listed n c hn] at this
    · exact hsame.trans (hsound.draining hdraining)
  | config c g _ => exact channelsKept_setChannel rfl rfl (fun h _ => ⟨h.governed, h.idle, h.draining⟩) hs

theorem Ending.keeps_channels (h : Ending s t) (hs : s.channelsKept) : t.channelsKept := by
  have hclaims := h.keeps.2.1
  have hwait : ∀ q ∈ t.claims, q.channels ≠ 0 := hclaims ▸ hs.2.2.2.2
  cases h with
  | lapse n why _ =>
    exact channelsKept_let_go n (fun k hk => by rw [lapse_lease, if_neg hk]) (by rw [lapse_lease, if_pos rfl]; rfl)
      (by rw [lapse_lease, if_pos rfl]; rfl) (fun c => by rw [(lapse_keeps s n why).2.2.1, detach_channel]) hclaims hs
  | free n =>
    refine channelsKept_let_go n (fun k hk => by rw [freeLease_lease, if_neg hk]) (by rw [freeLease_lease, if_pos rfl]; rfl)
      (by rw [freeLease_lease, if_pos rfl]; rfl) (fun c => ?_) hclaims hs
    rw [(freeLease_reads s n).1, detach_channel]
    split_ifs with hlive hlisted hlisted
    · rfl
    · rfl
    · rw [(channelsKept_iff.1 hs).2.1.not_listed hlive c] at hlisted
      cases hlisted
    · rfl
  | accept n m _ _ _ =>
    refine channelsKept_congr (fun k => ?_) (fun _ => by simp) hwait hs
    rw [acceptLease_lease]
    split_ifs with hk
    · exact hk ▸ ⟨rfl, rfl⟩
    · exact ⟨rfl, rfl⟩
  | drop n set hlive hsub hrest => exact channelsKept_drop hlive hsub hrest hs
  | withdraw m =>
    refine channelsKept_congr (fun n => ?_) (fun _ => by simp) hwait hs
    rw [withdrawOffersTo_lease]
    split_ifs <;> exact ⟨rfl, rfl⟩
  | stall => exact hs

/-- A grant of a FREE record, which lists no channel. -/
theorem channelsKept_grant {q : Claim} {n : Fin 64} {l : List Claim} (hsome : q.channels ≠ 0)
    (hidle : ∀ c : Fin 16, q.channels.getLsbD c.val = true → (s.channel c).state = .idle) (hn : (s.lease n).state = .free)
    (hl : ∀ p ∈ l, p ∈ s.claims) (hs : s.channelsKept) : ((s.grant q n).withClaims l).channelsKept := by
  have hlease : ((s.grant q n).withClaims l).lease n = q.granted (s.lease n) (s.now q.base) := by
    rw [(withClaims_keeps _ l).2.2.1, grant_lease, if_pos rfl]
  have hnone (c : Fin 16) := (channelsKept_iff.1 hs).2.1.not_listed (n := n) (by simp [Lease.live, hn]) c
  exact channelsKept_take n q.channels (fun k hk => by rw [(withClaims_keeps _ l).2.2.1, grant_lease, if_neg hk]) (hlease ▸ rfl)
    (fun h => by simp [hn] at h) (hlease ▸ hsome) (fun c => by rw [hlease, hnone c]; rfl) hidle
    (fun c => by rw [(withClaims_keeps _ l).2.2.2.2.1, grant_channel]) hl hs

theorem channelsKept_of_idle (hchannel : ∀ c, (s.channel c).state = .idle ∧ (s.channel c).governing = none ∧ (s.channel c).wave = .rest)
    (hlease : ∀ n, (s.lease n).state = .free ∧ (s.lease n).channels = 0) (hclaims : s.claims = []) : s.channelsKept :=
  channelsKept_iff.2 ⟨fun c => ⟨by simp [hchannel], fun _ => (hchannel c).2.2, by simp [hchannel]⟩,
    ⟨fun c n h => by simp [hchannel] at h, fun n c h => by simp [hlease] at h, fun n h => by simp [Lease.live, hlease] at h⟩,
    by simp [hclaims]⟩

theorem keptByRows_channels : KeptByRows Always fun s => s.channelsKept where
  setWindow _ _ _ h := h
  mapWindows _ h := h
  removeClaims {s} p h := channelsKept_congr (s := s) (fun _ => ⟨rfl, rfl⟩) (fun _ => rfl)
    (fun q hq => h.2.2.2.2 q (List.mem_of_mem_filter hq)) h
  joined {s} q _ hq _ h := by
    refine channelsKept_congr (s := s) (fun _ => ⟨rfl, rfl⟩) (fun _ => rfl) (fun p hp => ?_) h
    obtain hp | hp := List.mem_append.1 hp
    · exact h.2.2.2.2 p hp
    · exact List.mem_singleton.1 hp ▸ hq.channels
  drained {s} c hc _ h := by
    obtain ⟨hsound, hgoverns, hwait⟩ := channelsKept_iff.1 h
    have hnone := (hsound c).governing_eq_none (by simp [hc]) (by simp [hc])
    have hgoverning (d : Fin 16) : ((s.setChannel c (s.channel c).enterIdle).channel d).governing = (s.channel d).governing := by
      rw [setChannel_channel]
      split_ifs with hd
      · rw [hd, hnone]
        rfl
      · rfl
    refine channelsKept_iff.2 ⟨fun d => ?_, ⟨fun d n hd => ?_, fun n d hn => ?_, hgoverns.some⟩, hwait⟩
    · rw [setChannel_channel]
      split_ifs
      · exact (s.channel c).sound_enterIdle
      · exact hsound d
    · rw [hgoverning] at hd
      have hdc : d ≠ c := by
        rintro rfl
        simp [hnone] at hd
      rw [setChannel_channel_other s hdc]
      exact hgoverns.lease d n hd
    · rw [hgoverning]
      exact hgoverns.listed n d hn
  configured _ _ _ _ _ _ h := h
  disabled _ _ _ h := h
  calm hst _ h := hst.keeps_channels h
  ending hst _ h := hst.keeps_channels h
  granted {s} q n hq hidle hn _ h := by
    have := channelsKept_grant (l := s.claims) hq.channels hidle hn (fun _ hp => hp) h
    simpa only [State.channelsKept, withClaims_keeps, grant_keeps] using this
  tableReset _ _ := channelsKept_of_idle (fun c => by rw [resetTable_channel]; exact ⟨rfl, rfl, rfl⟩)
    (fun n => by rw [resetTable_lease]; exact ⟨rfl, rfl⟩) rfl
  scanGranted older newer q n hclaims hidle hn _ h :=
    channelsKept_grant (h.2.2.2.2 q (by rw [hclaims]; simp)) hidle hn
      (fun p hp => by rw [hclaims]; exact ((List.sublist_cons_self q newer).append_left older).subset hp) h

/-- A tick leaves a channel sound: the position of a generator rises in PERIODIC mode alone (R138). -/
theorem channelsKept_advanceA (hs : s.channelsKept) : s.advanceA.channelsKept := by
  obtain ⟨hsound, hgoverns, hwait⟩ := channelsKept_iff.1 hs
  refine channelsKept_iff.2 ⟨fun c => ?_, State.Governs.congr (s := s) (fun _ => ⟨rfl, rfl⟩) (fun c => by simp) hgoverns, hwait⟩
  rw [advanceA_channel]
  refine ⟨(hsound c).governed, fun hidle => ?_, fun hdraining => ?_⟩
  · rw [(hsound c).idle hidle]
    rfl
  · have hmode := (hsound c).draining hdraining
    simpa [Waveform.advance, hmode] using hmode

theorem channelsKept_powerOn (s : State) : s.powerOn.channelsKept :=
  channelsKept_of_idle (fun c => by rw [(powerOn_reads s).2.2.2.2.1]; exact ⟨rfl, rfl, rfl⟩)
    (fun n => by rw [(powerOn_reads s).2.2.1]; exact ⟨rfl, rfl⟩) rfl

/-- Settles O51: every kind of change keeps each channel under the live lease that lists it. -/
theorem stepKeepsChannelGovernance : Obligations.StepKeepsChannelGovernance := fun s t hs hst =>
  keptByRows_channels.step (fun _ h => h) channelsKept_advanceA (fun h => h) channelsKept_powerOn hs hst

/-! ### Waveform fields (R129, R113, R121) -/

/-- What `State.wavesKept` says of one channel. -/
structure Channel.WavesKept (ch : Channel) : Prop where
  wave : ch.wave.Kept
  safe : ¬ (ch.config.drive = .openDrain ∧ ch.config.safeLevel = .high)

theorem wavesKept_iff : s.wavesKept ↔ ∀ c, (s.channel c).WavesKept :=
  forall_congr' fun _ => ⟨fun ⟨h1, h2, h3, h4, h5⟩ => ⟨⟨h1, h2, h3, h4⟩, h5⟩, fun ⟨⟨h1, h2, h3, h4⟩, h5⟩ => ⟨h1, h2, h3, h4, h5⟩⟩

/-- Whatever becomes of a channel's state and governor, rest values or the values it had are kept. -/
theorem Channel.WavesKept.of_rest {ch ch' : Channel} (h : ch.WavesKept) (hconfig : ch'.config = ch.config)
    (hwave : ch'.wave = ch.wave ∨ ch'.wave = .rest) : ch'.WavesKept := by
  refine ⟨?_, hconfig ▸ h.safe⟩
  rcases hwave with e | e <;> rw [e]
  · exact h.wave
  · exact Waveform.kept_rest

theorem Channel.WavesKept.release {ch : Channel} (h : ch.WavesKept) : ch.release.WavesKept := by
  unfold Channel.release
  split_ifs
  · exact h.of_rest rfl (.inl rfl)
  · exact h.of_rest rfl (.inr rfl)
  · exact h

theorem wavesKept_of_channel (hchannel : ∀ c, (s.channel c).WavesKept → (t.channel c).WavesKept) (hs : s.wavesKept) : t.wavesKept :=
  wavesKept_iff.2 fun c => hchannel c (wavesKept_iff.1 hs c)

theorem wavesKept_setChannel {c : Fin 16} {ch : Channel} (h : (s.channel c).WavesKept → ch.WavesKept) (hs : s.wavesKept) :
    (s.setChannel c ch).wavesKept := by
  refine wavesKept_of_channel (s := s) (fun d hd => ?_) hs
  rw [setChannel_channel]
  split_ifs with hdc
  · exact h (hdc ▸ hd)
  · exact hd

theorem Calm.keeps_waves (h : Calm s t) (hs : s.wavesKept) : t.wavesKept := by
  cases h with
  | settings | start | stop | note | line => exact hs
  | offer | endOffer => exact wavesKept_of_channel (fun c hc => by simpa using hc) hs
  | renew n stamp _ =>
    refine wavesKept_of_channel (fun c hc => ?_) hs
    rw [renewLease_channel, Channel.unpark]
    split_ifs
    · exact hc.of_rest rfl (.inl rfl)
    · exact hc
    · exact hc
  | grace n _ =>
    refine wavesKept_of_channel (fun c hc => ?_) hs
    rw [enterGrace_channel, Channel.park]
    split_ifs
    · exact hc.of_rest rfl (.inl rfl)
    · exact hc
    · exact hc
  | add n set _ _ =>
    refine wavesKept_of_channel (s := s) (fun c hc => ?_) hs
    rw [governChannels_channel]
    split_ifs
    · exact hc.of_rest rfl (.inr rfl)
    · exact hc
  | wave c v hkept _ => exact wavesKept_setChannel (fun h => ⟨hkept h.wave, h.safe⟩) hs
  | config c g hsafe => exact wavesKept_setChannel (fun h => ⟨h.wave, hsafe⟩) hs

theorem wavesKept_detach (n : Fin 64) (c : Fin 16) (h : (s.channel c).WavesKept) : ((s.detach n).channel c).WavesKept := by
  rw [detach_channel]
  split_ifs
  · exact h.release
  · exact h

theorem Ending.keeps_waves (h : Ending s t) (hs : s.wavesKept) : t.wavesKept := by
  cases h with
  | lapse n why _ => exact wavesKept_of_channel (fun c hc => by rw [(lapse_keeps s n why).2.2.1]; exact wavesKept_detach n c hc) hs
  | free n =>
    refine wavesKept_of_channel (fun c hc => ?_) hs
    rw [(freeLease_reads s n).1]
    split_ifs
    · exact wavesKept_detach n c hc
    · exact hc
  | accept | withdraw => exact wavesKept_of_channel (fun c hc => by simpa using hc) hs
  | drop n set _ _ _ =>
    refine wavesKept_of_channel (s := s) (fun c hc => ?_) hs
    rw [setLease_channel, releaseChannels_channel]
    split_ifs
    · exact hc.release
    · exact hc
  | stall => exact hs

theorem wavesKept_grant (q : Claim) (n : Fin 64) (hs : s.wavesKept) : (s.grant q n).wavesKept := by
  refine wavesKept_of_channel (fun c hc => ?_) hs
  rw [grant_channel]
  split_ifs
  · exact hc.of_rest rfl (.inr rfl)
  · exact hc

theorem keptByRows_waves : KeptByRows Always fun s => s.wavesKept where
  setWindow _ _ _ h := h
  mapWindows _ h := h
  removeClaims _ h := h
  joined _ _ _ _ h := h
  drained _ _ _ h := wavesKept_setChannel (fun hc => hc.of_rest rfl (.inr rfl)) h
  configured _ _ _ _ _ _ h := h
  disabled _ _ _ h := h
  calm hst _ h := hst.keeps_waves h
  ending hst _ h := hst.keeps_waves h
  granted q n _ _ _ _ h := wavesKept_grant q n h
  tableReset _ h := wavesKept_of_channel (fun c hc => by rw [resetTable_channel]; exact hc.of_rest rfl (.inr rfl)) h
  scanGranted _ _ q n _ _ _ _ h := wavesKept_grant q n h

/-- Settles O52: every kind of change keeps the fields of each generator by its mode. -/
theorem stepKeepsWaveforms : Obligations.StepKeepsWaveforms := fun s t hs hst =>
  keptByRows_waves.step (fun _ h => h)
    (fun h => wavesKept_of_channel (fun c hc => by rw [advanceA_channel]; exact ⟨hc.wave.advance, hc.safe⟩) h)
    (fun h => h)
    (fun s => wavesKept_iff.2 fun c => by
      rw [(powerOn_reads s).2.2.2.2.1]
      exact ⟨Waveform.kept_rest, by simp [Channel.powerOn]⟩) hs hst

end Sys2Proof.Machine
end

section
/-! PROOFS. What every step keeps of the expiry queues: their members (R38), and their order by distance (R26). -/

namespace Sys2Proof.Machine

variable {s t : State}

/-! ### The members of a queue -/

theorem expiryKept_iff : s.expiryKept ↔ ∀ base, (s.expiryQueue base).Nodup
    ∧ ∀ n, n ∈ s.expiryQueue base ↔ ((s.lease n).live = true ∧ (s.lease n).base = base) := by
  constructor
  · rintro ⟨ha, hb, hmem⟩ base
    cases base
    · exact ⟨ha, fun n => (hmem n).1⟩
    · exact ⟨hb, fun n => (hmem n).2⟩
  · exact fun h => ⟨(h .a).1, (h .b).1, fun n => ⟨(h .a).2 n, (h .b).2 n⟩⟩

theorem expiryKept_congr (hlease : ∀ n, (t.lease n).live = (s.lease n).live ∧ (t.lease n).base = (s.lease n).base)
    (hqueue : ∀ base, t.expiryQueue base = s.expiryQueue base) (hs : s.expiryKept) : t.expiryKept := by
  refine expiryKept_iff.2 fun base => ?_
  simp only [hqueue, hlease]
  exact expiryKept_iff.1 hs base

/-- A lease that is live no longer leaves the queue of its base. -/
theorem expiryKept_leave (n : Fin 64) (hother : ∀ k, k ≠ n → t.lease k = s.lease k) (hdead : (t.lease n).live = false)
    (hqueue : ∀ base, t.expiryQueue base = (s.expiryQueue base).filter (· != n)) (hs : s.expiryKept) : t.expiryKept := by
  refine expiryKept_iff.2 fun base => ?_
  obtain ⟨hnodup, hmem⟩ := expiryKept_iff.1 hs base
  rw [hqueue]
  refine ⟨hnodup.filter _, fun k => ?_⟩
  obtain rfl | hk := eq_or_ne k n
  · simp [hdead]
  · simp [hk, hother k hk, hmem]

/-- A lease enters the queue of its base. -/
theorem expiryKept_enter (n : Fin 64) (hother : ∀ k, k ≠ n → t.lease k = s.lease k) (hlive : (t.lease n).live = true)
    (hbase : (s.lease n).live = true → (t.lease n).base = (s.lease n).base)
    (hqueue : t.expiryQueue (t.lease n).base =
      insertByDistance (fun x => distance (t.lease x).expiry (t.now (t.lease n).base)) n ((s.expiryQueue (t.lease n).base).filter (· != n)))
    (hqueues : ∀ base, base ≠ (t.lease n).base → t.expiryQueue base = s.expiryQueue base) (hs : s.expiryKept) : t.expiryKept := by
  refine expiryKept_iff.2 fun base => ?_
  obtain ⟨hnodup, hmem⟩ := expiryKept_iff.1 hs base
  obtain rfl | hbase' := eq_or_ne base (t.lease n).base
  · rw [hqueue]
    refine ⟨(insertByDistance_perm _ n _).nodup_iff.2 (List.nodup_cons.2 ⟨by simp, hnodup.filter _⟩), fun k => ?_⟩
    rw [mem_insertByDistance, List.mem_filter, hmem]
    obtain rfl | hk := eq_or_ne k n
    · simp [hlive]
    · simp [hk, hother k hk]
  · rw [hqueues base hbase']
    refine ⟨hnodup, fun k => (hmem k).trans ?_⟩
    obtain rfl | hk := eq_or_ne k n
    · refine iff_of_false (fun ⟨h1, h2⟩ => hbase' ?_) fun ⟨_, h2⟩ => hbase' h2.symm
      rw [hbase h1, h2]
    · rw [hother k hk]

/-- The queue that a lease leaves is the one of its base; it stands in no other. -/
theorem expiryKept_detach (n : Fin 64) (base : Base) (hs : s.expiryKept) :
    (s.detach n).expiryQueue base = (s.expiryQueue base).filter (· != n) := by
  rw [detach_expiryQueue]
  split_ifs with hbase
  · rfl
  · refine (List.filter_eq_self.2 fun k hk => bne_iff_ne.2 fun e : k = n => ?_).symm
    exact hbase (((expiryKept_iff.1 hs base).2 n).1 (e ▸ hk)).2.symm

theorem expiryKept_freeLease (n : Fin 64) (base : Base) (hs : s.expiryKept) :
    (s.freeLease n).expiryQueue base = (s.expiryQueue base).filter (· != n) := by
  rw [(freeLease_reads s n).2.2.2]
  split_ifs with hlive
  · exact expiryKept_detach n base hs
  · refine (List.filter_eq_self.2 fun k hk => bne_iff_ne.2 fun e : k = n => ?_).symm
    exact hlive (((expiryKept_iff.1 hs base).2 n).1 (e ▸ hk)).1

/-! ### The order of a queue -/

/-- R38: the queue of one base stands in order of distance. -/
def State.QueueOrdered (s : State) (base : Base) : Prop :=
  (s.expiryQueue base).Pairwise fun n k => s.stampDistance base n ≤ s.stampDistance base k

/-- Entry by distance into a list in order keeps it in order. -/
theorem pairwise_insertByDistance {d : Fin 64 → Int} {n : Fin 64} {q : List (Fin 64)} (h : q.Pairwise fun x y => d x ≤ d y) :
    (insertByDistance d n q).Pairwise fun x y => d x ≤ d y := by
  induction q with
  | nil => exact List.pairwise_singleton _ _
  | cons x xs ih =>
    obtain ⟨hx, hxs⟩ := List.pairwise_cons.1 h
    unfold insertByDistance
    split_ifs with hxn
    · refine List.pairwise_cons.2 ⟨fun y hy => ?_, ih hxs⟩
      obtain rfl | hy := mem_insertByDistance.1 hy
      · exact hxn
      · exact hx y hy
    · refine List.pairwise_cons.2 ⟨fun y hy => ?_, h⟩
      rw [not_le] at hxn
      obtain rfl | hy := List.mem_cons.1 hy
      · exact hxn.le
      · exact hxn.le.trans (hx y hy)

/-- Members may leave a queue in order, if those that stay keep their stamps. -/
theorem State.QueueOrdered.sublist {base : Base} (h : s.QueueOrdered base) (hqueue : (t.expiryQueue base).Sublist (s.expiryQueue base))
    (hexpiry : ∀ n ∈ t.expiryQueue base, (t.lease n).expiry = (s.lease n).expiry) (hnow : t.now base = s.now base) :
    t.QueueOrdered base := by
  refine List.Pairwise.imp_of_mem (fun {x y} hx hy hxy => ?_) (List.Pairwise.sublist hqueue h)
  rw [State.stampDistance, State.stampDistance, hexpiry x hx, hexpiry y hy, hnow]
  exact hxy

/-- A member enters a queue in order, by the stamp its record holds. -/
theorem State.QueueOrdered.enter {base : Base} {n : Fin 64} (h : s.QueueOrdered base)
    (hother : ∀ k, k ≠ n → t.lease k = s.lease k) (hnow : t.now base = s.now base)
    (hqueue : t.expiryQueue base =
      insertByDistance (fun x => distance (t.lease x).expiry (t.now base)) n ((s.expiryQueue base).filter (· != n))) :
    t.QueueOrdered base := by
  rw [State.QueueOrdered, hqueue]
  refine pairwise_insertByDistance ?_
  refine List.Pairwise.imp_of_mem (fun {x y} hx hy hxy => ?_) (List.Pairwise.sublist List.filter_sublist h)
  rw [stampDistance_eq, stampDistance_eq, hother x (by simpa using (List.mem_filter.1 hx).2), hother y (by simpa using (List.mem_filter.1 hy).2), hnow]
  exact hxy

/-! ### The changes of single records -/

/-- What a change does to the queues: live leases and their stamps stay, one lease leaves, or one enters by its stamp. -/
inductive QueueChange (s t : State) : Prop
  | kept (hlease : ∀ n, (t.lease n).live = (s.lease n).live ∧ (t.lease n).base = (s.lease n).base ∧ (t.lease n).expiry = (s.lease n).expiry)
      (hqueue : ∀ base, t.expiryQueue base = s.expiryQueue base) (hnow : ∀ base, t.now base = s.now base)
  | left (n : Fin 64) (hother : ∀ k, k ≠ n → t.lease k = s.lease k) (hdead : (t.lease n).live = false)
      (hqueue : ∀ base, t.expiryQueue base = (s.expiryQueue base).filter (· != n)) (hnow : ∀ base, t.now base = s.now base)
  | entered (n : Fin 64) (hother : ∀ k, k ≠ n → t.lease k = s.lease k) (hlive : (t.lease n).live = true)
      (hbase : (s.lease n).live = true → (t.lease n).base = (s.lease n).base)
      (hqueue : t.expiryQueue (t.lease n).base =
        insertByDistance (fun x => distance (t.lease x).expiry (t.now (t.lease n).base)) n
          ((s.expiryQueue (t.lease n).base).filter (· != n)))
      (hqueues : ∀ base, base ≠ (t.lease n).base → t.expiryQueue base = s.expiryQueue base) (hnow : ∀ base, t.now base = s.now base)

theorem QueueChange.expiryKept (h : QueueChange s t) (hs : s.expiryKept) : t.expiryKept := by
  cases h with
  | kept hlease hqueue _ => exact expiryKept_congr (fun n => ⟨(hlease n).1, (hlease n).2.1⟩) hqueue hs
  | left n hother hdead hqueue _ => exact expiryKept_leave n hother hdead hqueue hs
  | entered n hother hlive hbase hqueue hqueues _ => exact expiryKept_enter n hother hlive hbase hqueue hqueues hs

theorem QueueChange.queuesOrdered (h : QueueChange s t) (hkept : s.expiryKept) (hs : s.queuesOrdered) : t.queuesOrdered := by
  refine (queuesOrdered_iff t).2 fun base => ?_
  have hbase : s.QueueOrdered base := (queuesOrdered_iff s).1 hs base
  cases h with
  | kept hlease hqueue hnow => exact hbase.sublist (hqueue base ▸ .refl _) (fun n _ => (hlease n).2.2) (hnow base)
  | left n hother _ hqueue hnow =>
    refine hbase.sublist (hqueue base ▸ List.filter_sublist) (fun k hk => ?_) (hnow base)
    rw [hqueue, List.mem_filter] at hk
    rw [hother k (by simpa using hk.2)]
  | entered n hother _ hsame hqueue hqueues hnow =>
    by_cases hb : base = (t.lease n).base
    · subst hb
      exact hbase.enter hother (hnow _) hqueue
    · refine hbase.sublist (hqueues base hb ▸ .refl _) (fun k hk => ?_) (hnow base)
      rw [hqueues base hb] at hk
      obtain ⟨hlive, hk'⟩ := ((expiryKept_iff.1 hkept base).2 k).1 hk
      rw [hother k]
      rintro rfl
      exact hb ((hsame hlive).trans hk').symm

/-- A lease is requeued at the stamp its new record holds. -/
theorem queueChange_requeue {n : Fin 64} (l : Lease) (hlease : ∀ k, t.lease k = if k = n then l else s.lease k) (hlive : l.live = true)
    (hbase : l.base = (s.lease n).base) (hqueue : ∀ base, t.expiryQueue base = ((s.setLease n l).requeue (s.lease n).base n).expiryQueue base)
    (hnow : ∀ base, t.now base = s.now base) : QueueChange s t := by
  have hlease' (k : Fin 64) : (s.setLease n l).lease k = t.lease k := by rw [setLease_lease, hlease]
  have hn : t.lease n = l := by rw [hlease, if_pos rfl]
  refine .entered n (fun k hk => by rw [hlease, if_neg hk]) (hn ▸ hlive) (fun _ => hn ▸ hbase) ?_ (fun base hb => ?_) hnow
  · rw [hn, hbase, hqueue, requeue_eq_setExpiryQueue, setExpiryQueue_expiryQueue, if_pos rfl]
    simp only [hlease', hnow, setLease_now, setLease_expiryQueue]
  · rw [hn, hbase] at hb
    rw [hqueue, requeue_other _ hb, setLease_expiryQueue]

theorem Calm.queueChange (h : Calm s t) : QueueChange s t := by
  cases h with
  | settings a b notice freeze resetAsserted freeCount pending hA hB =>
    exact .kept (fun _ => ⟨rfl, rfl, rfl⟩) (fun base => by cases base <;> rfl) (fun base => by cases base; exacts [hA, hB])
  | start | stop =>
    exact .kept (fun _ => ⟨rfl, rfl, rfl⟩) (fun base => by cases base <;> rfl) (fun base => by cases base <;> rfl)
  | wave | config | line => exact .kept (fun _ => ⟨rfl, rfl, rfl⟩) (fun base => by simp) (fun base => by simp)
  | renew n stamp _ =>
    exact queueChange_requeue _ (fun k => renewLease_lease s n k stamp) rfl rfl (renewLease_expiryQueue s n stamp) (by simp)
  | grace n _ =>
    refine queueChange_requeue _ (fun k => enterGrace_lease s n k) rfl rfl (fun base => ?_) (by simp)
    rw [enterGrace_expiryQueue, requeue_eq_setExpiryQueue, requeue_eq_setExpiryQueue]
    have hdistance : (fun x => distance ((s.setLease n (s.lease n).intoGrace).lease x).expiry ((s.setLease n (s.lease n).intoGrace).now (s.lease n).base))
        = fun x => distance ((s.setLease n ((s.lease n).intoGrace.raise .grace)).lease x).expiry
            ((s.setLease n ((s.lease n).intoGrace.raise .grace)).now (s.lease n).base) := by
      funext x
      simp only [setLease_now, setLease_lease]
      split_ifs <;> rfl
    rw [hdistance]
    simp only [setExpiryQueue_expiryQueue, setLease_expiryQueue]
  | note n l hsame _ _ =>
    refine .kept (fun k => ?_) (fun base => by simp) (fun base => by simp)
    rw [setLease_lease]
    split_ifs with hk
    · exact hk ▸ ⟨by rw [Lease.live, Lease.live, hsame.state], hsame.base, hsame.expiry⟩
    · exact ⟨rfl, rfl, rfl⟩
  | offer n target _ _ =>
    refine .kept (fun k => ?_) (fun base => by simp) (fun base => by simp)
    rw [makeOffer_lease]
    split_ifs with hk
    · exact hk ▸ ⟨rfl, rfl, rfl⟩
    · exact ⟨rfl, rfl, rfl⟩
  | endOffer n =>
    refine .kept (fun k => ?_) (fun base => by simp) (fun base => by simp)
    rw [endOffer_lease]
    split_ifs with hk
    · exact hk ▸ ⟨rfl, rfl, rfl⟩
    · exact ⟨rfl, rfl, rfl⟩
  | add n set _ _ =>
    refine .kept (fun k => ?_) (fun base => by simp) (fun base => by simp)
    rw [(governChannels_keeps _ set n).2.2.1, setLease_lease]
    split_ifs with hk
    · exact hk ▸ ⟨rfl, rfl, rfl⟩
    · exact ⟨rfl, rfl, rfl⟩

/-- An ending leaves leases and queues, or lets one lease leave; the queues hold live leases alone. -/
theorem Ending.queueChange (h : Ending s t) (hs : s.expiryKept) : QueueChange s t := by
  cases h with
  | lapse n why _ =>
    exact .left n (fun k hk => by rw [lapse_lease, if_neg hk]) (by rw [lapse_lease, if_pos rfl]; rfl)
      (fun base => by rw [(lapse_keeps s n why).2.2.2.2.2.1, expiryKept_detach n base hs]) (by simp)
  | free n =>
    exact .left n (fun k hk => by rw [freeLease_lease, if_neg hk]) (by rw [freeLease_lease, if_pos rfl]; rfl)
      (fun base => expiryKept_freeLease n base hs) (by simp)
  | accept n m _ _ _ =>
    refine .kept (fun k => ?_) (by simp) (by simp)
    rw [acceptLease_lease]
    split_ifs with hk
    · exact hk ▸ ⟨rfl, rfl, rfl⟩
    · exact ⟨rfl, rfl, rfl⟩
  | drop n set _ _ _ =>
    refine .kept (fun k => ?_) (by simp) (by simp)
    rw [setLease_lease]
    split_ifs with hk
    · exact hk ▸ ⟨rfl, rfl, rfl⟩
    · simp
  | withdraw m =>
    refine .kept (fun n => ?_) (by simp) (by simp)
    rw [withdrawOffersTo_lease]
    split_ifs <;> exact ⟨rfl, rfl, rfl⟩
  | stall => exact .kept (fun _ => ⟨rfl, rfl, rfl⟩) (fun base => by cases base <;> rfl) (fun base => by cases base <;> rfl)

/-- A grant enters the lease in the queue of its claim's base. -/
theorem queueChange_grant {q : Claim} {n : Fin 64} (hn : (s.lease n).state = .free) (hs : s.expiryKept) : QueueChange s (s.grant q n) := by
  have hlease : (s.grant q n).lease n = q.granted (s.lease n) (s.now q.base) := by rw [grant_lease, if_pos rfl]
  have hdead : ¬ (s.lease n).live = true := by simp [Lease.live, hn]
  have hout : (s.expiryQueue q.base).filter (· != n) = s.expiryQueue q.base :=
    List.filter_eq_self.2 fun k hk => bne_iff_ne.2 fun e : k = n => hdead (((expiryKept_iff.1 hs q.base).2 n).1 (e ▸ hk)).1
  have hsame (k : Fin 64) : (s.setLease n (q.granted (s.lease n) (s.now q.base))).lease k = (s.grant q n).lease k := by
    rw [setLease_lease, grant_lease]
  refine .entered n (fun k hk => by rw [grant_lease, if_neg hk]) (hlease ▸ rfl) (fun h => absurd h hdead) ?_ (fun base hb => ?_) (by simp)
  · rw [hlease]
    change (s.grant q n).expiryQueue q.base = insertByDistance (fun x => distance ((s.grant q n).lease x).expiry ((s.grant q n).now q.base)) n
      ((s.expiryQueue q.base).filter (· != n))
    rw [hout, grant_expiryQueue, enterExpiry_expiryQueue, if_pos rfl]
    simp only [hsame, setLease_now, grant_keeps, setLease_expiryQueue]
  · have hb' : base ≠ q.base := by rwa [hlease] at hb
    rw [grant_expiryQueue, enterExpiry_expiryQueue, if_neg hb', setLease_expiryQueue]

theorem keptByRows_expiry : KeptByRows Always fun s => s.expiryKept where
  setWindow _ _ _ h := h
  mapWindows _ h := h
  removeClaims _ h := h
  joined _ _ _ _ h := h
  drained _ _ _ h := h
  configured _ _ _ _ _ _ h := h
  disabled _ _ _ h := h
  calm hst _ h := hst.queueChange.expiryKept h
  ending hst _ h := (hst.queueChange h).expiryKept h
  granted _ _ _ _ hn _ h := (queueChange_grant hn h).expiryKept h
  tableReset _ _ := expiryKept_iff.2 fun base => by simp [Lease.rest, Lease.live]
  scanGranted _ _ _ _ _ _ hn _ h := (queueChange_grant hn h).expiryKept h

theorem keptByRows_queuesOrdered : KeptByRows (fun s => s.expiryKept) fun s => s.queuesOrdered where
  setWindow _ _ _ h := h
  mapWindows _ h := h
  removeClaims _ h := h
  joined _ _ _ _ h := h
  drained _ _ _ h := h
  configured _ _ _ _ _ _ h := h
  disabled _ _ _ h := h
  calm hst hkept h := hst.queueChange.queuesOrdered hkept h
  ending hst hkept h := (hst.queueChange hkept).queuesOrdered hkept h
  granted _ _ _ _ hn hkept h := (queueChange_grant hn hkept).queuesOrdered hkept h
  tableReset _ _ := ⟨.nil, .nil⟩
  scanGranted _ _ _ _ _ _ hn hkept h := (queueChange_grant hn hkept).queuesOrdered hkept h

/-! ### The ticks -/

theorem stampDistance_advance {x now : Stamp} (h : -2147483648 < (x - now).toInt) : (x - (now + 1)).toInt = (x - now).toInt - 1 := by
  have e : x - (now + 1) = (x - now) - 1 := by bv_omega
  rw [e]
  generalize x - now = y at h
  rw [BitVec.toInt_eq_toNat_cond] at h ⊢
  rw [BitVec.toInt_eq_toNat_cond]
  bv_omega

/-- A tick lowers every distance of its base by one. -/
theorem State.QueueOrdered.tick {base : Base} (h : s.QueueOrdered base) (hqueue : t.expiryQueue base = s.expiryQueue base)
    (hexpiry : ∀ n, (t.lease n).expiry = (s.lease n).expiry) (hnow : t.now base = s.now base + 1)
    (hnear : ∀ n ∈ s.expiryQueue base, -2147483648 < s.stampDistance base n) : t.QueueOrdered base := by
  rw [State.QueueOrdered, hqueue]
  refine List.Pairwise.imp_of_mem (fun {x y} hx hy hxy => ?_) h
  rw [State.stampDistance, State.stampDistance, hexpiry, hexpiry, hnow, stampDistance_advance (hnear x hx), stampDistance_advance (hnear y hy)]
  exact Int.sub_le_sub_right hxy 1

theorem queuesOrdered_advanceA (hs : s.queuesOrdered) (hnear : s.stampsNear) : s.advanceA.queuesOrdered :=
  ⟨State.QueueOrdered.tick (base := .a) hs.1 rfl (fun _ => rfl) rfl hnear.1, hs.2⟩

theorem queuesOrdered_advanceB (hs : s.queuesOrdered) (hnear : s.stampsNear) : s.advanceB.queuesOrdered :=
  ⟨hs.1, State.QueueOrdered.tick (base := .b) hs.2 rfl (fun _ => rfl) rfl hnear.2⟩

theorem queuesOrdered_of_begun (h : Begun s t) (hs : s.queuesOrdered) (hnear : s.stampsNear) : t.queuesOrdered := by
  rcases h with rfl | rfl | rfl | rfl
  · exact hs
  · exact queuesOrdered_advanceA hs hnear
  · exact queuesOrdered_advanceB hs hnear
  · obtain ⟨ha, hb⟩ := queuesOrdered_advanceA hs hnear
    exact ⟨ha, State.QueueOrdered.tick (base := .b) hb rfl (fun _ => rfl) rfl hnear.2⟩

theorem expiryKept_powerOn (s : State) : s.powerOn.expiryKept :=
  expiryKept_iff.2 fun base => by simp [Lease.rest, Lease.live]

/-- Settles O53: every kind of change keeps each queue at the live leases of its base, and a queue changes by members that leave it and by
entry by distance; a tick lowers all distances alike. -/
theorem stepKeepsExpiryQueues : Obligations.StepKeepsExpiryQueues := by
  intro s t hs hst
  refine ⟨keptByRows_expiry.step (fun _ h => h) (fun h => h) (fun h => h) expiryKept_powerOn hs hst, fun hordered hnear => ?_⟩
  rcases step_inversion hst with ⟨rest, rfl⟩ | ⟨rest, u, hbegun, hrows⟩
  · exact ⟨.nil, .nil⟩
  · have hu : u.expiryKept := by
      rcases hbegun with rfl | rfl | rfl | rfl <;> exact hs
    exact ((keptByRows_expiry.and keptByRows_queuesOrdered).rows hrows ⟨hu, queuesOrdered_of_begun hbegun hordered hnear⟩).2

end Sys2Proof.Machine
end

section
/-! PROOFS. What every step keeps of base B (R31, R33, R34, R46) and of the lease records by themselves (R2, R3, R5, R92). -/

namespace Sys2Proof.Machine

variable {s t : State}

/-! ### Base B -/

/-- A lease that is live after an ending was live before it, on the same base. -/
theorem Ending.live_of_live (h : Ending s t) {n : Fin 64} (hn : (t.lease n).live = true) :
    (s.lease n).live = true ∧ (t.lease n).base = (s.lease n).base := by
  cases h with
  | lapse k why _ =>
    rw [lapse_lease] at hn ⊢
    split_ifs at hn ⊢
    · cases hn
    · exact ⟨hn, rfl⟩
  | free k =>
    rw [freeLease_lease] at hn ⊢
    split_ifs at hn ⊢
    · cases hn
    · exact ⟨hn, rfl⟩
  | accept k m _ _ _ =>
    rw [acceptLease_lease] at hn ⊢
    split_ifs at hn ⊢ with hk
    · subst hk
      exact ⟨hn, rfl⟩
    · exact ⟨hn, rfl⟩
  | drop k set _ _ _ =>
    rw [setLease_lease] at hn ⊢
    split_ifs at hn ⊢ with hk
    · subst hk
      exact ⟨hn, rfl⟩
    · exact ⟨by simpa using hn, by simp⟩
  | withdraw m =>
    rw [withdrawOffersTo_lease] at hn ⊢
    split_ifs at hn ⊢ <;> exact ⟨hn, rfl⟩
  | stall => exact ⟨hn, rfl⟩

/-- Base B stays as it is, and nothing new comes on it while it does not run. -/
theorem baseBKept_of_same (hbase : t.baseB.state = s.baseB.state) (hnotice : t.deviceNotice = .baseBStalled → s.deviceNotice = .baseBStalled)
    (hlease : ∀ n, (t.lease n).live = true → (t.lease n).base = .b →
      ((s.lease n).live = true ∧ (t.lease n).base = (s.lease n).base) ∨ s.baseB.state = .running)
    (hclaims : ∀ q ∈ t.claims, q.base = .b → q ∈ s.claims ∨ s.baseB.state = .running) (hs : s.baseBKept) : t.baseBKept := by
  obtain ⟨hlive, hwait, hstalled⟩ := hs
  rw [State.baseBKept, hbase]
  refine ⟨fun n hn hb => ?_, fun q hq hb => ?_, fun h => hstalled (hnotice h)⟩
  · obtain ⟨h, hsame⟩ | h := hlease n hn hb
    · exact hlive n h (hsame ▸ hb)
    · exact h
  · obtain h | h := hclaims q hq hb
    · exact hwait q h hb
    · exact h

theorem Calm.keeps_baseB (h : Calm s t) (hs : s.baseBKept) : t.baseBKept := by
  have hlease (n : Fin 64) (hn : (t.lease n).live = true) : (s.lease n).live = true ∧ (t.lease n).base = (s.lease n).base := by
    obtain ⟨-, -, -, hlive, hbase⟩ := h.keeps_standing n
    exact ⟨hlive ▸ hn, hbase⟩
  have hclaims : ∀ q ∈ t.claims, q ∈ s.claims := fun q hq => h.keeps.2.2 ▸ hq
  have hsame (hbase : t.baseB = s.baseB) (hnotice : t.deviceNotice = s.deviceNotice) : t.baseBKept :=
    baseBKept_of_same (congrArg BaseB.state hbase) (hnotice ▸ id) (fun n hn _ => .inl (hlease n hn)) (fun q hq _ => .inl (hclaims q hq)) hs
  cases h with
  | settings a b notice freeze resetAsserted freeCount pending _ _ hstate hnotice _ =>
    refine baseBKept_of_same (s := s) hstate (fun hstalled => ?_) (fun n hn _ => .inl ⟨hn, rfl⟩) (fun q hq _ => .inl hq) hs
    rcases hnotice with rfl | rfl
    · exact hstalled
    · cases hstalled
  | start => exact ⟨fun _ _ _ => rfl, fun _ _ _ => rfl, DeviceNotice.noConfusion⟩
  | stop hrunning hlive hnone =>
    refine ⟨fun n hn hb => absurd hb (hlive n hn), fun q hq hb => absurd hb (hnone q hq), fun hstalled => ?_⟩
    have := hs.2.2 hstalled
    rw [hrunning] at this
    cases this
  | renew | grace | offer | endOffer | add => exact hsame (by simp) (by simp)
  | note | wave | config | line => exact hsame rfl rfl

/-- A stall event leaves no lease and no claim on base B (R44 to R46). -/
theorem Ending.keeps_baseB (h : Ending s t) (hexpiry : s.expiryKept) (hs : s.baseBKept) : t.baseBKept := by
  have hsame (hbase : t.baseB = s.baseB) (hnotice : t.deviceNotice = s.deviceNotice) : t.baseBKept :=
    baseBKept_of_same (congrArg BaseB.state hbase) (hnotice ▸ id) (fun n hn _ => .inl (h.live_of_live hn))
      (fun q hq _ => .inl (h.keeps.2.1 ▸ hq)) hs
  cases h with
  | lapse | free | accept | drop | withdraw => exact hsame (by simp) (by simp)
  | stall hlapsed hclaims =>
    refine ⟨fun n hn hb => ?_, fun q hq hb => absurd hb (hclaims q hq), fun _ => rfl⟩
    have hlapsed' := hlapsed n ((hexpiry.2.2 n).2.2 ⟨hn, hb⟩)
    have hn' : (s.lease n).live = true := hn
    simp [Lease.live, hlapsed'] at hn'

theorem baseBKept_grant {q : Claim} {n : Fin 64} {l : List Claim} (hq : q.base = .b → s.baseB.state = .running)
    (hl : ∀ p ∈ l, p ∈ s.claims) (hs : s.baseBKept) : ((s.grant q n).withClaims l).baseBKept := by
  refine baseBKept_of_same (s := s) (by simp) (by simp) (fun k hk hb => ?_) (fun p hp _ => .inl (hl p hp)) hs
  simp only [withClaims_keeps, grant_lease] at hk hb ⊢
  split_ifs at hk hb ⊢
  · exact .inr (hq hb)
  · exact .inl ⟨hk, rfl⟩

theorem keptByRows_baseB : KeptByRows (fun s => s.expiryKept) fun s => s.baseBKept where
  setWindow _ _ _ h := h
  mapWindows _ h := h
  removeClaims _ h := ⟨h.1, fun q hq => h.2.1 q (List.mem_of_mem_filter hq), h.2.2⟩
  joined q _ hq _ h := by
    refine ⟨h.1, fun p hp hb => ?_, h.2.2⟩
    obtain hp | hp := List.mem_append.1 hp
    · exact h.2.1 p hp hb
    · obtain rfl := List.mem_singleton.1 hp
      exact hq.base hb
  drained _ _ _ h := h
  configured _ _ _ _ _ _ h := h
  disabled _ _ _ h := h
  calm hst _ h := hst.keeps_baseB h
  ending hst hexpiry h := hst.keeps_baseB hexpiry h
  granted {s} q n hq _ _ _ h := by
    have := baseBKept_grant (n := n) (l := s.claims) hq.base (fun _ hp => hp) h
    simpa only [State.baseBKept, withClaims_keeps, grant_keeps] using this
  tableReset _ h := ⟨fun n hn => by simp [Lease.rest, Lease.live] at hn, fun q hq => by simp at hq, h.2.2⟩
  scanGranted older newer q n hclaims _ _ _ h :=
    baseBKept_grant (h.2.1 q (by rw [hclaims]; simp))
      (fun p hp => by rw [hclaims]; exact ((List.sublist_cons_self q newer).append_left older).subset hp) h

/-- Settles O56: base B ceases to run only with nothing on it, in STOP_BASE_B, or with its queue lapsed and its claims ended, in a stall
event. -/
theorem stepKeepsBaseB : Obligations.StepKeepsBaseB := by
  intro s t hexpiry hs hst
  refine ((keptByRows_expiry.and keptByRows_baseB).step (fun _ h => h) (fun h => h) (fun h => h)
    (fun s => ⟨expiryKept_powerOn s, ?_⟩) ⟨hexpiry, hs⟩ hst).2
  refine ⟨fun n hn => ?_, fun q hq => ?_, fun h => ?_⟩
  · rw [(powerOn_reads s).2.2.1] at hn
    cases hn
  · simp at hq
  · simp at h

/-! ### Lease records -/

/-- What `State.recordsKept` says of one record. -/
structure Lease.Recorded (l : Lease) : Prop where
  free : l.state = .free → l = Lease.blank l.generation
  taken : l.state ≠ .free → l.holder ≠ none ∧ l.generation ≠ 0
  endReason : l.endReason ≠ none ↔ l.state = .lapsed
  lapsed : l.state = .lapsed → l.channels = 0 ∧ l.stagedTerm = none ∧ l.line = none ∧ l.offerTarget = none

theorem recordsKept_iff : s.recordsKept ↔ ∀ n, (s.lease n).Recorded :=
  forall_congr' fun _ => ⟨fun ⟨h1, h2, h3, h4⟩ => ⟨h1, h2, h3, h4⟩, fun ⟨h1, h2, h3, h4⟩ => ⟨h1, h2, h3, h4⟩⟩

/-- A live record that stays live, keeps its holder and its generation, and gets no end reason. -/
theorem Lease.Recorded.of_live {l l' : Lease} (h : l.Recorded) (hlive : l.live = true) (hlive' : l'.live = true) (hholder : l'.holder = l.holder)
    (hgeneration : l'.generation = l.generation) (hreason : l'.endReason = l.endReason) : l'.Recorded := by
  have hstates (l : Lease) (hl : l.live = true) : l.state ≠ .free ∧ l.state ≠ .lapsed := by
    rcases (lease_live_iff l).1 hl with e | e <;> simp [e]
  obtain ⟨hfree, hlapsed⟩ := hstates l hlive
  obtain ⟨hfree', hlapsed'⟩ := hstates l' hlive'
  refine ⟨fun e => absurd e hfree', fun _ => ?_, ?_, fun e => absurd e hlapsed'⟩
  · rw [hholder, hgeneration]
    exact h.taken hfree
  · rw [hreason, h.endReason]
    exact iff_of_false hlapsed hlapsed'

theorem Lease.recorded_rest (g : BitVec 8) : (Lease.rest g).Recorded := ⟨fun _ => rfl, by simp [Lease.rest], by simp [Lease.rest], by simp [Lease.rest]⟩

/-- A withdrawn offer leaves a record that had none as it is. -/
theorem Lease.Recorded.withdrawn {l : Lease} (h : l.Recorded) : ({ l with offerTarget := none } : Lease).Recorded := by
  refine ⟨fun hfree => ?_, h.taken, h.endReason, fun hlapsed => ?_⟩
  · have e := h.free hfree
    have htarget : l.offerTarget = none := by
      rw [e]
      rfl
    change ({ l with offerTarget := none } : Lease) = Lease.blank l.generation
    rw [← e, ← htarget]
  · obtain ⟨h1, h2, h3, -⟩ := h.lapsed hlapsed
    exact ⟨h1, h2, h3, rfl⟩

theorem Lease.Recorded.afterLapse {l : Lease} (h : l.Recorded) (hstate : l.state ≠ .free) (why : EndReason) : (l.afterLapse why).Recorded :=
  ⟨LeaseState.noConfusion, fun _ => h.taken hstate, by simp [Lease.afterLapse], fun _ => ⟨rfl, rfl, rfl, rfl⟩⟩

theorem Lease.Recorded.acceptedBy {l : Lease} (h : l.Recorded) (hstate : l.state ≠ .free) (m : Fin 8) : (l.acceptedBy m).Recorded := by
  refine ⟨fun e => absurd e hstate, fun _ => ⟨Option.some_ne_none m, (h.taken hstate).2⟩, h.endReason, fun hlapsed => ?_⟩
  obtain ⟨h1, h2, h3, -⟩ := h.lapsed hlapsed
  exact ⟨h1, h2, h3, rfl⟩

/-- Options, staged term and notices change on a record that is not FREE; the staged term on a live one alone. -/
theorem Lease.Recorded.noted {l l' : Lease} (h : l.Recorded) (hsame : l.SameStanding l') (hstate : l.state ≠ .free)
    (hstaged : l'.stagedTerm = l.stagedTerm ∨ l.live = true) : l'.Recorded := by
  refine ⟨fun e => absurd (hsame.state ▸ e) hstate, fun _ => ?_, ?_, fun hlapsed => ?_⟩
  · rw [hsame.holder, hsame.generation]
    exact h.taken hstate
  · rw [hsame.endReason, hsame.state]
    exact h.endReason
  · rw [hsame.state] at hlapsed
    obtain ⟨h1, h2, h3, h4⟩ := h.lapsed hlapsed
    rw [hsame.channels, hsame.line, hsame.offerTarget]
    refine ⟨h1, ?_, h3, h4⟩
    rcases hstaged with e | hlive
    · rw [e, h2]
    · simp [Lease.live, hlapsed] at hlive

theorem nextGeneration_ne_zero (g : BitVec 8) : nextGeneration g ≠ 0 := by
  unfold nextGeneration
  split_ifs with h
  · decide
  · bv_omega

theorem Claim.recorded_granted (q : Claim) (l : Lease) (now : Stamp) : (q.granted l now).Recorded :=
  ⟨LeaseState.noConfusion, fun _ => ⟨Option.some_ne_none _, nextGeneration_ne_zero _⟩, by simp [Claim.granted], LeaseState.noConfusion⟩

/-- One record changes. -/
theorem recordsKept_of_lease {n : Fin 64} {l : Lease} (hlease : ∀ k, t.lease k = if k = n then l else s.lease k)
    (hl : (s.lease n).Recorded → l.Recorded) (hs : s.recordsKept) : t.recordsKept := by
  refine recordsKept_iff.2 fun k => ?_
  rw [hlease]
  split_ifs
  · exact hl (recordsKept_iff.1 hs n)
  · exact recordsKept_iff.1 hs k

theorem Calm.keeps_records (h : Calm s t) (hchannels : s.channelsKept) (hs : s.recordsKept) : t.recordsKept := by
  cases h with
  | settings | start | stop | wave | config | line => exact hs
  | renew n stamp hlive => exact recordsKept_of_lease (fun k => renewLease_lease s n k stamp) (fun h => h.of_live hlive rfl rfl rfl rfl) hs
  | grace n hheld =>
    exact recordsKept_of_lease (enterGrace_lease s n) (fun h => h.of_live ((lease_live_iff _).2 (.inl hheld)) rfl rfl rfl rfl) hs
  | note n l hsame hstanding hstaged =>
    refine recordsKept_of_lease (fun k => setLease_lease s n k l) (fun h => h.noted hsame ?_ hstaged) hs
    rcases hstanding with hstate | ⟨c, hc⟩
    · exact hstate
    · intro hfree
      have := ((channelsKept_iff.1 hchannels).2.1.lease c n hc).1
      simp [Lease.live, hfree] at this
  | offer n target hlive _ => exact recordsKept_of_lease (fun k => makeOffer_lease s n k target) (fun h => h.of_live hlive hlive rfl rfl rfl) hs
  | endOffer n => exact recordsKept_of_lease (endOffer_lease s n) (fun h => h.withdrawn) hs
  | add n set hlive _ =>
    exact recordsKept_of_lease (s := s) (l := { s.lease n with channels := (s.lease n).channels ||| set })
      (fun k => by rw [(governChannels_keeps _ set n).2.2.1, setLease_lease])
      (fun h => h.of_live hlive hlive rfl rfl rfl) hs

theorem Ending.keeps_records (h : Ending s t) (hexpiry : s.expiryKept) (hs : s.recordsKept) : t.recordsKept := by
  cases h with
  | lapse n why hlive =>
    refine recordsKept_of_lease (fun k => lapse_lease s n k why) (fun h => h.afterLapse (fun hfree => ?_) why) hs
    obtain hlive : (s.lease n).live = true ∨ (s.lease n).state = .lapsed := by
      rcases hlive with hlive | hmem | hlapsed
      · exact .inl hlive
      · exact .inl ((hexpiry.2.2 n).2.1 hmem).1
      · exact .inr hlapsed
    simp [Lease.live, hfree] at hlive
  | free n => exact recordsKept_of_lease (freeLease_lease s n) (fun _ => Lease.recorded_rest _) hs
  | accept n m hstate _ _ => exact recordsKept_of_lease (fun k => acceptLease_lease s n k m) (fun h => h.acceptedBy hstate m) hs
  | drop n set hlive _ _ =>
    exact recordsKept_of_lease (s := s) (l := { s.lease n with channels := (s.lease n).channels &&& ~~~set })
      (fun k => by rw [setLease_lease, (releaseChannels_keeps s set).2.2.1])
      (fun h => h.of_live hlive hlive rfl rfl rfl) hs
  | withdraw m =>
    refine recordsKept_iff.2 fun n => ?_
    rw [withdrawOffersTo_lease]
    split_ifs
    · exact (recordsKept_iff.1 hs n).withdrawn
    · exact recordsKept_iff.1 hs n
  | stall => exact hs

theorem recordsKept_grant (q : Claim) (n : Fin 64) (hs : s.recordsKept) : (s.grant q n).recordsKept :=
  recordsKept_of_lease (grant_lease s q n) (fun _ => q.recorded_granted _ _) hs

theorem keptByRows_records : KeptByRows (fun s => s.expiryKept ∧ s.channelsKept) fun s => s.recordsKept where
  setWindow _ _ _ h := h
  mapWindows _ h := h
  removeClaims _ h := h
  joined _ _ _ _ h := h
  drained _ _ _ h := h
  configured _ _ _ _ _ _ h := h
  disabled _ _ _ h := h
  calm hst hkept h := hst.keeps_records hkept.2 h
  ending hst hkept h := hst.keeps_records hkept.1 h
  granted q n _ _ _ _ h := recordsKept_grant q n h
  tableReset _ _ := recordsKept_iff.2 fun n => by rw [resetTable_lease]; exact Lease.recorded_rest _
  scanGranted _ _ q n _ _ _ _ h := recordsKept_grant q n h

/-- Settles O57: a record becomes FREE or LAPSED with the values of that state, a grant gives it a holder and a generation above 0, and
no other change touches these. -/
theorem stepKeepsLeaseRecords : Obligations.StepKeepsLeaseRecords := by
  intro s t hchannels hexpiry hs hst
  have hkept := (keptByRows_expiry.and keptByRows_channels.under).and keptByRows_records
  refine (hkept.step (fun _ h => h) (fun h => ⟨⟨h.1.1, channelsKept_advanceA h.1.2⟩, h.2⟩) (fun h => h)
    (fun s => ⟨⟨expiryKept_powerOn s, channelsKept_powerOn s⟩, ?_⟩) ⟨⟨hexpiry, hchannels⟩, hs⟩ hst).2
  refine recordsKept_iff.2 fun n => ?_
  rw [(powerOn_reads s).2.2.1]
  exact Lease.recorded_rest 0

end Sys2Proof.Machine
end

section
/-! PROOFS. What every step keeps of the windows (R158, R149, R160) and of what waits in them (R47, R159). -/

namespace Sys2Proof.Machine

variable {s t u : State}

/-! ### A window by itself -/

/-- What `State.windowsKept` says of one window. -/
structure Window.Kept (x : Window) : Prop where
  code : x.code ≠ none ↔ x.state = .done
  pending : x.completionPending = true → x.state = .done
  drain : x.drainSet ≠ 0 → x.state = .busy
  words : x.state ≠ .done → x.words = Vector.replicate 12 0

theorem windowsKept_iff : s.windowsKept ↔ ∀ m w, (s.window m w).Kept :=
  forall_congr' fun _ => forall_congr' fun _ => ⟨fun ⟨h1, h2, h3, h4⟩ => ⟨h1, h2, h3, h4⟩, fun ⟨h1, h2, h3, h4⟩ => ⟨h1, h2, h3, h4⟩⟩

theorem Window.kept_rest : Window.rest.Kept := ⟨by simp [Window.rest], by simp [Window.rest], by simp [Window.rest], fun _ => rfl⟩

theorem Window.Answered.kept {x : Window} (h : x.Answered) : x.Kept :=
  ⟨iff_of_true h.code h.state, fun _ => h.state, fun hdrain => absurd h.drainSet hdrain, fun hdone => absurd h.state hdone⟩

theorem Window.Draining.kept {x : Window} (h : x.Draining) : x.Kept :=
  ⟨by simp [h.code, h.state], by simp [h.completionPending], fun _ => h.state, fun _ => h.words⟩

theorem Window.Claiming.kept {x : Window} {drainSet : ChannelSet} (h : x.Claiming drainSet) : x.Kept :=
  ⟨by simp [h.code, h.state], by simp [h.completionPending], fun _ => h.state, fun _ => h.words⟩

theorem Window.completeLate_answered (x : Window) (code : ResultCode) (items : List Word) : (x.completeLate code items).Answered :=
  ⟨rfl, Option.some_ne_none _, rfl⟩

theorem Window.Kept.endWait {x : Window} (h : x.Kept) (inQueue : Bool) : (x.endWait inQueue).Kept := by
  unfold Window.endWait
  split_ifs
  · exact (x.completeLate_answered _ _).kept
  · exact h

theorem Window.Kept.leaveDrain {x : Window} (h : x.Kept) (c : Fin 16) : (x.leaveDrain c).Kept := by
  unfold Window.leaveDrain
  split_ifs with hc
  · exact (x.completeLate_answered _ _).kept
  · have hbusy : x.state = .busy := h.drain (by rintro h0; simp [h0] at hc)
    exact ⟨h.code, h.pending, fun _ => hbusy, h.words⟩
  · exact h

theorem WindowChange.kept {m : Fin 8} {w : Fin 2} {x : Window} (h : WindowChange s m w x) (hs : (s.window m w).Kept) : x.Kept := by
  cases h with
  | flags hstate _ hcode hwords hdrain hpending =>
    exact ⟨by rw [hcode, hstate]; exact hs.code, by rw [hpending, hstate]; exact hs.pending, by rw [hdrain, hstate]; exact hs.drain,
      by rw [hwords, hstate]; exact hs.words⟩
  | refused _ hdone => exact hdone.kept
  | taken hdone hstate hcode hwords hdrain _ hpending =>
    have hempty : (s.window m w).drainSet = 0 := by
      by_contra h
      simp [hs.drain h] at hdone
    exact ⟨by simp [hcode, hstate], by simp [hpending], by simp [hdrain, hempty], fun _ => hwords⟩
  | drainAborted _ hdone => exact hdone.kept

/-! ### The windows -/

theorem windowsKept_congr (h : ∀ m w, t.window m w = s.window m w) (hs : s.windowsKept) : t.windowsKept :=
  windowsKept_iff.2 fun m w => h m w ▸ windowsKept_iff.1 hs m w

/-- One window is set over a state whose other windows are kept. -/
theorem windowsKept_setWindow {m : Fin 8} {w : Fin 2} {y : Window} (hy : y.Kept)
    (h : ∀ k v, ¬ (k = m ∧ v = w) → (t.window k v).Kept) : (t.setWindow m w y).windowsKept := by
  refine windowsKept_iff.2 fun k v => ?_
  rw [setWindow_window]
  split_ifs with hkv
  · exact hy
  · exact h k v hkv

theorem windowsKept_scanGrants (h : ScanGrants s t) (hs : s.windowsKept) : t.windowsKept := by
  induction h with
  | refl => exact hs
  | tail _ hstep ih =>
    cases hstep with
    | grant older newer q n _ _ _ _ _ y hy =>
      refine windowsKept_congr (s := (State.grant _ q n).setWindow q.master q.window y) (fun _ _ => rfl)
        (windowsKept_setWindow (hy ▸ (Window.completeLate_answered _ _ _).kept) fun k v _ => ?_)
      rw [(grant_keeps _ q n).1]
      exact windowsKept_iff.1 ih k v

theorem windowsKept_closeEvent (before : State) (hs : s.windowsKept) : (closeEvent before s).windowsKept :=
  windowsKept_scanGrants (scanGrants_closeEvent before s) hs

theorem Calms.keeps (h : Calms s t) :
    (∀ m w, t.window m w = s.window m w) ∧ (∀ m, t.master m = s.master m) ∧ t.claims = s.claims := by
  induction h with
  | refl => exact ⟨fun _ _ => rfl, fun _ => rfl, rfl⟩
  | tail _ hstep ih =>
    obtain ⟨hw, hm, hc⟩ := ih
    obtain ⟨hw', hm', hc'⟩ := hstep.keeps
    exact ⟨fun m w => (hw' m w).trans (hw m w), fun m => (hm' m).trans (hm m), hc'.trans hc⟩

theorem Endings.keeps (h : Endings s t) :
    (∀ m w, t.window m w = s.window m w) ∧ t.claims = s.claims ∧ ∀ m, (t.master m).quota = (s.master m).quota := by
  induction h with
  | refl => exact ⟨fun _ _ => rfl, rfl, fun _ => rfl⟩
  | tail _ hstep ih =>
    obtain ⟨hw, hc, hm⟩ := ih
    obtain ⟨hw', hc', -, -, hm'⟩ := hstep.keeps
    exact ⟨fun m w => (hw' m w).trans (hw m w), hc'.trans hc, fun m => (hm' m).2.2.trans (hm m)⟩

/-- A window is set twice in a row, around changes that leave windows alone. -/
theorem window_of_around {m : Fin 8} {w : Fin 2} {x : Window} (h : ∀ k v, u.window k v = (s.setWindow m w x).window k v) {k : Fin 8} {v : Fin 2}
    (hkv : ¬ (k = m ∧ v = w)) : u.window k v = s.window k v := by
  rw [h, setWindow_window, if_neg hkv]

/-- The windows that DISABLE_MASTER resets (R63). -/
theorem resetWindowsOf_window (s : State) (k j : Fin 8) (v : Fin 2) :
    (s.resetWindowsOf k).window j v = if j = k then .rest else s.window j v := by
  have hv : v = 0 ∨ v = 1 := by omega
  simp only [State.resetWindowsOf, setWindow_window]
  obtain rfl | rfl := hv <;> by_cases hj : j = k <;> simp [hj]

theorem Row.keeps_windows (h : Row s t) (hs : s.windowsKept) : t.windowsKept := by
  have hall := windowsKept_iff.1 hs
  cases h with
  | calm h => exact windowsKept_congr (Calms.keeps h).1 hs
  | window m w x hx => exact windowsKept_setWindow (hx.kept (hall m w)) fun k v _ => hall k v
  | answered m w x y _ h hy =>
    refine windowsKept_setWindow hy.kept fun k v hkv => ?_
    rw [window_of_around (Calms.keeps h).1 hkv]
    exact hall k v
  | closed m w x y _ h hy =>
    refine windowsKept_closeEvent s (windowsKept_setWindow ?_ fun k v hkv => ?_)
    · exact hy.elim Window.Answered.kept Window.Draining.kept
    · rw [window_of_around (Endings.keeps h).1 hkv]
      exact hall k v
  | lapsed h => exact windowsKept_closeEvent s (windowsKept_congr (Endings.keeps h).1 hs)
  | configured m w x y _ k r _ _ _ _ hy =>
    refine windowsKept_closeEvent s (windowsKept_setWindow hy.kept fun j v hjv => ?_)
    rw [setMaster_window, setWindow_window, if_neg hjv]
    exact hall j v
  | joined m w x q arrivals _ hx => exact windowsKept_setWindow hx.kept fun k v _ => hall k v
  | granted m w y q n _ hy =>
    refine windowsKept_setWindow hy.kept fun k v _ => ?_
    rw [(grant_keeps s q n).1]
    exact hall k v
  | tableReset m w y _ hy =>
    refine windowsKept_setWindow hy.kept fun k v _ => ?_
    rw [resetTable_window]
    exact (hall k v).endWait _
  | disabled m w k x y _ _ h _ hy =>
    refine windowsKept_closeEvent s (windowsKept_setWindow hy.kept fun j v hjv => ?_)
    rw [setMaster_window, resetWindowsOf_window]
    split_ifs
    · exact Window.kept_rest
    · exact (window_of_around (Endings.keeps h).1 hjv).symm ▸ hall j v
  | ended p code h =>
    refine windowsKept_closeEvent s (windowsKept_iff.2 fun m w => ?_)
    rw [(Endings.keeps h).1, endClaims_window]
    split_ifs
    · exact (Window.completeLate_answered _ _ _).kept
    · exact hall m w
  | drained c _ =>
    refine windowsKept_closeEvent s (windowsKept_iff.2 fun m w => ?_)
    rw [mapWindows_window]
    exact (hall m w).leaveDrain c
  | windowReset m w => exact windowsKept_closeEvent s (windowsKept_setWindow Window.kept_rest fun k v _ => hall k v)

theorem Rows.keeps_windows (h : Rows s t) (hs : s.windowsKept) : t.windowsKept := by
  induction h with
  | refl => exact hs
  | tail _ hstep ih => exact hstep.keeps_windows ih

theorem Begun.keeps_windows (h : Begun s t) : (∀ m w, t.window m w = s.window m w) ∧ t.claims = s.claims := by
  rcases h with rfl | rfl | rfl | rfl <;> exact ⟨fun _ _ => rfl, rfl⟩

/-- Settles O47: every kind of row leaves a window as it was, at rest, done, or waiting with no result. -/
theorem stepKeepsWindows : Obligations.StepKeepsWindows := by
  intro s t hs hst
  rcases step_inversion hst with ⟨rest, rfl⟩ | ⟨rest, u, hbegun, hrows⟩
  · exact windowsKept_iff.2 fun m w => by rw [(powerOn_reads _).1]; exact Window.kept_rest
  · exact hrows.keeps_windows (windowsKept_congr hbegun.keeps_windows.1 hs)

/-! ### What waits in a window -/

/-- A claim of window `w` of master `m` waits in the queue. -/
def State.claimIn (s : State) (m : Fin 8) (w : Fin 2) : Prop := ∃ q ∈ s.claims, q.master = m ∧ q.window = w

/-- What `State.waitsKept` says of one window, given whether a claim of it waits. -/
structure Window.Fits (x : Window) (claimWaits : Prop) : Prop where
  claim : claimWaits → x.command = 0x10 ∧ x.drainSet = 0
  drain : x.drainSet ≠ 0 → x.command = 0x16
  busy : x.state = .busy ↔ (claimWaits ∨ x.drainSet ≠ 0)

/-- No two claims wait in one window (R47). -/
def OnePerWindow (l : List Claim) : Prop := l.Pairwise fun p q => ¬ (p.master = q.master ∧ p.window = q.window)

theorem OnePerWindow.unique {l : List Claim} (h : OnePerWindow l) {p q : Claim} (hp : p ∈ l) (hq : q ∈ l)
    (hplace : p.master = q.master ∧ p.window = q.window) : p = q := by
  induction l with
  | nil => cases hp
  | cons x l ih =>
    obtain ⟨hx, hl⟩ := List.pairwise_cons.1 h
    rw [List.mem_cons] at hp hq
    rcases hp with rfl | hp <;> rcases hq with rfl | hq
    · rfl
    · exact absurd hplace (hx q hq)
    · exact absurd ⟨hplace.1.symm, hplace.2.symm⟩ (hx p hp)
    · exact ih hl hp hq

theorem waitsKept_iff : s.waitsKept ↔ s.claims.length ≤ 12 ∧ OnePerWindow s.claims ∧ ∀ m w, (s.window m w).Fits (s.claimIn m w) := by
  constructor
  · rintro ⟨hlength, hpair, hclaim, hwindow⟩
    refine ⟨hlength, hpair, fun m w => ⟨?_, (hwindow m w).1, (hwindow m w).2⟩⟩
    rintro ⟨q, hq, rfl, rfl⟩
    exact hclaim q hq
  · rintro ⟨hlength, hpair, hfits⟩
    exact ⟨hlength, hpair, fun q hq => (hfits q.master q.window).claim ⟨q, hq, rfl, rfl⟩, fun m w => ⟨(hfits m w).drain, (hfits m w).busy⟩⟩

theorem Window.Fits.not_claim {x : Window} {claimWaits : Prop} (h : x.Fits claimWaits) (hfree : x.state ≠ .busy) : ¬ claimWaits :=
  fun hclaim => hfree (h.busy.2 (.inl hclaim))

theorem Window.Fits.congr {x : Window} {c d : Prop} (h : x.Fits c) (hcd : d ↔ c) : x.Fits d := by rwa [propext hcd]

/-- A window that waits for nothing fits no waiting claim. -/
theorem Window.fits_of_not_busy {x : Window} {c : Prop} (hc : ¬ c) (hstate : x.state ≠ .busy) (hdrain : x.drainSet = 0) : x.Fits c :=
  ⟨fun h => absurd h hc, fun h => absurd hdrain h, iff_of_false hstate fun h => h.elim hc (absurd hdrain)⟩

theorem Window.Answered.fits {x : Window} {c : Prop} (h : x.Answered) (hc : ¬ c) : x.Fits c :=
  Window.fits_of_not_busy hc (by simp [h.state]) h.drainSet

theorem Window.Draining.fits {x : Window} {c : Prop} (h : x.Draining) (hc : ¬ c) : x.Fits c :=
  ⟨fun h' => absurd h' hc, fun _ => h.command, iff_of_true h.state (.inr h.drainSet)⟩

theorem Window.fits_rest {c : Prop} (hc : ¬ c) : Window.rest.Fits c := Window.fits_of_not_busy hc (by simp [Window.rest]) rfl

theorem WindowChange.fits {m : Fin 8} {w : Fin 2} {x : Window} (h : WindowChange s m w x) (hkept : (s.window m w).Kept)
    (hs : (s.window m w).Fits (s.claimIn m w)) : x.Fits (s.claimIn m w) := by
  cases h with
  | flags hstate hcommand _ _ hdrain _ =>
    exact ⟨by rw [hcommand, hdrain]; exact hs.claim, by rw [hcommand, hdrain]; exact hs.drain, by rw [hstate, hdrain]; exact hs.busy⟩
  | refused hfree hdone => exact hdone.fits (hs.not_claim hfree)
  | taken hdone hstate _ _ hdrain _ _ =>
    refine Window.fits_of_not_busy (hs.not_claim (by simp [hdone])) (by simp [hstate]) ?_
    by_contra h
    simp [hkept.drain (hdrain ▸ h)] at hdone
  | drainAborted hnone hdone => exact hdone.fits fun ⟨q, hq, hplace⟩ => hnone q hq hplace

theorem Window.Fits.leaveDrain {x : Window} {claimWaits : Prop} (h : x.Fits claimWaits) (c : Fin 16) :
    (x.leaveDrain c).Fits claimWaits := by
  unfold Window.leaveDrain
  split_ifs with hc hlast
  · have hdrain : x.drainSet ≠ 0 := by
      rintro h0
      simp [h0] at hc
    exact (x.completeLate_answered _ _).fits fun hclaim => hdrain (h.claim hclaim).2
  · have hdrain : x.drainSet ≠ 0 := by
      rintro h0
      simp [h0] at hc
    exact ⟨fun hclaim => absurd (h.claim hclaim).2 hdrain, fun _ => h.drain hdrain, iff_of_true (h.busy.2 (.inr hdrain)) (.inr hlast)⟩
  · exact h

/-! ### Windows and waiting claims together -/

/-- Claims leave the queue, and each window fits what is left. -/
theorem waitsKept_of_sublist (hclaims : t.claims.Sublist s.claims)
    (hwindow : ∀ m w, (s.window m w).Fits (s.claimIn m w) → (t.window m w).Fits (t.claimIn m w)) (hs : s.waitsKept) : t.waitsKept := by
  obtain ⟨hlength, hpair, hfits⟩ := waitsKept_iff.1 hs
  exact waitsKept_iff.2 ⟨hclaims.length_le.trans hlength, List.Pairwise.sublist hclaims hpair, fun m w => hwindow m w (hfits m w)⟩

theorem claimIn_congr (h : t.claims = s.claims) (m : Fin 8) (w : Fin 2) : t.claimIn m w ↔ s.claimIn m w := by
  rw [State.claimIn, State.claimIn, h]

theorem waitsKept_congr (hwindow : ∀ m w, t.window m w = s.window m w) (hclaims : t.claims = s.claims) (hs : s.waitsKept) : t.waitsKept :=
  waitsKept_of_sublist (hclaims ▸ .refl _) (fun m w h => by rw [hwindow]; exact h.congr (claimIn_congr hclaims m w)) hs

/-- One window is set over a state with the claims and the other windows of `s`. -/
theorem waitsKept_setWindow {m : Fin 8} {w : Fin 2} {y : Window} (hclaims : t.claims = s.claims)
    (hy : (s.window m w).Fits (s.claimIn m w) → y.Fits (s.claimIn m w)) (h : ∀ k v, ¬ (k = m ∧ v = w) → t.window k v = s.window k v)
    (hs : s.waitsKept) : (t.setWindow m w y).waitsKept := by
  refine waitsKept_of_sublist (s := s) (hclaims ▸ .refl _) (fun k v hkv => ?_) hs
  rw [setWindow_window]
  refine Window.Fits.congr (c := s.claimIn k v) ?_ (claimIn_congr hclaims k v)
  split_ifs with he
  · obtain ⟨rfl, rfl⟩ := he
    exact hy hkv
  · rw [h k v he]
    exact hkv

/-- The one claim of a window leaves the queue. -/
theorem claimIn_removed {older newer : List Claim} {q : Claim} (h : OnePerWindow (older ++ q :: newer)) (m : Fin 8) (w : Fin 2) :
    (∃ p ∈ older ++ newer, p.master = m ∧ p.window = w) ↔
      (∃ p ∈ older ++ q :: newer, p.master = m ∧ p.window = w) ∧ ¬ (m = q.master ∧ w = q.window) := by
  obtain ⟨-, hcons, holder⟩ := List.pairwise_append.1 h
  obtain ⟨hnewer, -⟩ := List.pairwise_cons.1 hcons
  constructor
  · rintro ⟨p, hp, rfl, rfl⟩
    refine ⟨⟨p, ?_, rfl, rfl⟩, fun hplace => ?_⟩
    · simp only [List.mem_append, List.mem_cons] at hp ⊢
      tauto
    · obtain hp | hp := List.mem_append.1 hp
      · exact holder p hp q List.mem_cons_self hplace
      · exact hnewer p hp ⟨hplace.1.symm, hplace.2.symm⟩
  · rintro ⟨⟨p, hp, rfl, rfl⟩, hplace⟩
    refine ⟨p, ?_, rfl, rfl⟩
    simp only [List.mem_append, List.mem_cons] at hp ⊢
    obtain hp | rfl | hp := hp
    · exact .inl hp
    · exact absurd ⟨rfl, rfl⟩ hplace
    · exact .inr hp

theorem waitsKept_scanGrants (h : ScanGrants s t) (hs : s.waitsKept) : t.waitsKept := by
  induction h with
  | refl => exact hs
  | @tail u _ _ hstep ih =>
    cases hstep with
    | grant older newer q n hclaims _ _ _ _ y hy =>
      have hpair : OnePerWindow (older ++ q :: newer) := hclaims ▸ (waitsKept_iff.1 ih).2.1
      refine waitsKept_of_sublist (s := u) ?_ (fun m w hmw => ?_) ih
      · rw [hclaims]
        exact (List.sublist_cons_self q newer).append_left older
      · have hclaim : (((u.grant q n).setWindow q.master q.window y).withClaims (older ++ newer)).claimIn m w ↔
            u.claimIn m w ∧ ¬ (m = q.master ∧ w = q.window) := by
          rw [State.claimIn, State.claimIn, hclaims]
          exact claimIn_removed hpair m w
        rw [(withClaims_keeps _ _).1, setWindow_window, (grant_keeps u q n).1]
        split_ifs with hplace
        · exact (hy ▸ Window.completeLate_answered _ _ _ : y.Answered).fits fun h => (hclaim.1 h).2 hplace
        · exact hmw.congr (hclaim.trans (and_iff_left hplace))

theorem waitsKept_closeEvent (before : State) (hs : s.waitsKept) : (closeEvent before s).waitsKept :=
  waitsKept_scanGrants (scanGrants_closeEvent before s) hs

/-- Claims with a property leave the queue, and the windows they wait in are set free (R45, R57, R59). -/
theorem waitsKept_endClaims (p : Claim → Bool) (code : ResultCode) (hs : s.waitsKept) : (s.endClaims p code).waitsKept := by
  have hpair := (waitsKept_iff.1 hs).2.1
  refine waitsKept_of_sublist (s := s) List.filter_sublist (fun m w hmw => ?_) hs
  rw [endClaims_window]
  split_ifs with hany
  · refine (Window.completeLate_answered _ _ _).fits ?_
    obtain ⟨q, hq, hpq⟩ := List.any_eq_true.1 hany
    rw [Bool.and_eq_true, claim_isIn_iff] at hpq
    rintro ⟨q', hq', hplace⟩
    rw [endClaims_claims, List.mem_filter] at hq'
    obtain rfl : q = q' :=
      hpair.unique hq hq'.1 ⟨hpq.2.1.trans hplace.1.symm, hpq.2.2.trans hplace.2.symm⟩
    simp [hpq.1] at hq'
  · refine hmw.congr ⟨fun ⟨q, hq, hplace⟩ => ⟨q, List.mem_of_mem_filter hq, hplace⟩, fun ⟨q, hq, hplace⟩ => ⟨q, ?_, hplace⟩⟩
    rw [endClaims_claims, List.mem_filter]
    refine ⟨hq, ?_⟩
    rw [Bool.not_eq_true', Bool.eq_false_iff]
    exact fun hpq => hany (List.any_eq_true.2 ⟨q, hq, by rw [hpq, (claim_isIn_iff q m w).2 hplace]; rfl⟩)

/-- The table reset ends every wait (R23). -/
theorem waitsKept_resetTable {m : Fin 8} {w : Fin 2} {y : Window} (hy : y.Answered) (hs : s.waitsKept) :
    (s.resetTable.setWindow m w y).waitsKept := by
  refine waitsKept_of_sublist (s := s) (List.nil_sublist _) (fun k v hkv => ?_) hs
  have hnone : ¬ (s.resetTable.setWindow m w y).claimIn k v := fun ⟨q, hq, _⟩ => by simp at hq
  rw [setWindow_window, resetTable_window, Window.endWait]
  split_ifs with hplace hwait
  · exact hy.fits hnone
  · exact (Window.completeLate_answered _ _ _).fits hnone
  · rw [Bool.or_eq_true, not_or, any_isIn_iff] at hwait
    have hdrain : (s.window k v).drainSet = 0 := by simpa using hwait.2
    exact Window.fits_of_not_busy hnone (fun hbusy => (hkv.busy.1 hbusy).elim hwait.1 (absurd hdrain)) hdrain

theorem waitsKept_joined {m : Fin 8} {w : Fin 2} {x : Window} {q : Claim} (arrivals : Word) (hfree : (s.window m w).state ≠ .busy)
    (hx : x.Claiming (s.window m w).drainSet) (hmaster : q.master = m) (hwindow : q.window = w) (hlength : s.claims.length < 12)
    (hkept : s.windowsKept) (hs : s.waitsKept) :
    ({ s with arrivals := arrivals, claims := s.claims ++ [q] }.setWindow m w x).waitsKept := by
  obtain ⟨-, hpair, hfits⟩ := waitsKept_iff.1 hs
  have hdrain : (s.window m w).drainSet = 0 := by
    by_contra h
    exact hfree ((windowsKept_iff.1 hkept m w).drain h)
  have hclaim (k : Fin 8) (v : Fin 2) : ({ s with arrivals := arrivals, claims := s.claims ++ [q] }.setWindow m w x).claimIn k v ↔
      s.claimIn k v ∨ (k = m ∧ v = w) := by
    simp only [State.claimIn, setWindow_claims, List.mem_append, List.mem_singleton, or_and_right, exists_or, exists_eq_left, hmaster,
      hwindow]
    rw [eq_comm (a := m), eq_comm (a := w)]
  refine waitsKept_iff.2 ⟨by simpa using hlength, List.pairwise_append.2 ⟨hpair, List.pairwise_singleton _ _, ?_⟩, fun k v => ?_⟩
  · intro p hp q' hq' hplace
    obtain rfl := List.mem_singleton.1 hq'
    rw [hmaster, hwindow] at hplace
    exact (hfits m w).not_claim hfree ⟨p, hp, hplace⟩
  · rw [setWindow_window]
    split_ifs with hkv
    · have hdrain' : x.drainSet = 0 := hx.drainSet.trans hdrain
      exact ⟨fun _ => ⟨hx.command, hdrain'⟩, fun h => absurd hdrain' h, iff_of_true hx.state (.inl ((hclaim k v).2 (.inr hkv)))⟩
    · exact (hfits k v).congr ((hclaim k v).trans (or_iff_left hkv))

theorem Row.keeps_waits (h : Row s t) (hkept : s.windowsKept) (hs : s.waitsKept) : t.waitsKept := by
  have hfits := (waitsKept_iff.1 hs).2.2
  cases h with
  | calm h => exact waitsKept_congr (Calms.keeps h).1 (Calms.keeps h).2.2 hs
  | window m w x hx => exact waitsKept_setWindow rfl (hx.fits (windowsKept_iff.1 hkept m w)) (fun _ _ _ => rfl) hs
  | answered m w x y hfree h hy =>
    exact waitsKept_setWindow (s := s) (Calms.keeps h).2.2 (fun hx => hy.fits (hx.not_claim hfree))
      (fun _ _ hkv => window_of_around (Calms.keeps h).1 hkv) hs
  | closed m w x y hfree h hy =>
    refine waitsKept_closeEvent s (waitsKept_setWindow (s := s) (Endings.keeps h).2.1 (fun hx => ?_)
      (fun _ _ hkv => window_of_around (Endings.keeps h).1 hkv) hs)
    exact hy.elim (fun hy => hy.fits (hx.not_claim hfree)) fun hy => hy.fits (hx.not_claim hfree)
  | lapsed h => exact waitsKept_closeEvent s (waitsKept_congr (Endings.keeps h).1 (Endings.keeps h).2.1 hs)
  | configured m w x y hfree k r _ _ _ _ hy =>
    exact waitsKept_closeEvent s (waitsKept_setWindow (s := s) rfl (fun hx => hy.fits (hx.not_claim hfree))
      (fun _ _ hkv => window_of_around (u := (s.setWindow m w x).setMaster k r) (fun _ _ => rfl) hkv) hs)
  | joined m w x q arrivals hfree hx hmaster hwindow hlength _ _ =>
    exact waitsKept_joined arrivals hfree hx hmaster hwindow hlength hkept hs
  | granted m w y q n hfree hy =>
    exact waitsKept_setWindow (grant_keeps s q n).2.2.1 (fun hx => hy.fits (hx.not_claim hfree)) (fun _ _ _ => (grant_keeps s q n).1 _ _) hs
  | tableReset m w y _ hy => exact waitsKept_resetTable hy hs
  | @disabled u m w k x y hfree _ h _ hy =>
    have hclaims : u.claims = s.claims := (Endings.keeps h).2.1
    refine waitsKept_closeEvent s (waitsKept_of_sublist (s := s) (hclaims ▸ List.filter_sublist) (fun j v hjv => ?_) hs)
    have hclaim : (((((u.removeClaims fun q => q.master == k).resetWindowsOf k).setMaster k (u.master k).disabled).setWindow m w y).claimIn
        j v) ↔ s.claimIn j v ∧ j ≠ k := by
      simp only [State.claimIn, setWindow_claims, setMaster_claims, State.resetWindowsOf, removeClaims_claims, hclaims, List.mem_filter]
      constructor
      · rintro ⟨q, ⟨hq, hne⟩, rfl, rfl⟩
        exact ⟨⟨q, hq, rfl, rfl⟩, by simpa using hne⟩
      · rintro ⟨⟨q, hq, rfl, rfl⟩, hne⟩
        exact ⟨q, ⟨hq, by simpa using hne⟩, rfl, rfl⟩
    rw [setWindow_window, setMaster_window, resetWindowsOf_window]
    split_ifs with hplace hjk
    · obtain ⟨rfl, rfl⟩ := hplace
      exact hy.fits fun h => hjv.not_claim hfree (hclaim.1 h).1
    · exact Window.fits_rest fun h => (hclaim.1 h).2 hjk
    · have hsame : u.window j v = s.window j v := window_of_around (Endings.keeps h).1 hplace
      exact (hsame.symm ▸ hjv : (u.window j v).Fits (s.claimIn j v)).congr (hclaim.trans (and_iff_left hjk))
  | ended p code h =>
    exact waitsKept_closeEvent s (waitsKept_congr (Endings.keeps h).1 (Endings.keeps h).2.1 (waitsKept_endClaims p code hs))
  | drained c _ =>
    refine waitsKept_closeEvent s (waitsKept_of_sublist (s := s) (.refl _) (fun m w hmw => ?_) hs)
    rw [mapWindows_window]
    exact hmw.leaveDrain c
  | windowReset m w =>
    refine waitsKept_closeEvent s (waitsKept_of_sublist (s := s) List.filter_sublist (fun k v hkv => ?_) hs)
    have hclaim : ((s.removeClaims fun q => q.isIn m w).setWindow m w .rest).claimIn k v ↔ s.claimIn k v ∧ ¬ (k = m ∧ v = w) := by
      simp only [State.claimIn, setWindow_claims, removeClaims_claims, List.mem_filter, Bool.not_eq_true', Bool.eq_false_iff, ne_eq,
        claim_isIn_iff]
      constructor
      · rintro ⟨q, ⟨hq, hne⟩, rfl, rfl⟩
        exact ⟨⟨q, hq, rfl, rfl⟩, hne⟩
      · rintro ⟨⟨q, hq, rfl, rfl⟩, hne⟩
        exact ⟨q, ⟨hq, hne⟩, rfl, rfl⟩
    rw [setWindow_window]
    split_ifs with hplace
    · exact Window.fits_rest fun h => (hclaim.1 h).2 hplace
    · exact hkv.congr (hclaim.trans (and_iff_left hplace))

/-- Settles O49: every kind of row leaves a window BUSY exactly while its claim is in the queue or it drains. -/
theorem stepKeepsWaits : Obligations.StepKeepsWaits := by
  intro s t hkept hs hst
  rcases step_inversion hst with ⟨rest, rfl⟩ | ⟨rest, u, hbegun, hrows⟩
  · refine waitsKept_iff.2 ⟨by simp, by simp [OnePerWindow], fun m w => ?_⟩
    rw [(powerOn_reads _).1]
    exact Window.fits_rest fun ⟨q, hq, _⟩ => by simp at hq
  · have hu : u.windowsKept ∧ u.waitsKept :=
      ⟨windowsKept_congr hbegun.keeps_windows.1 hkept, waitsKept_congr hbegun.keeps_windows.1 hbegun.keeps_windows.2 hs⟩
    clear hbegun hst
    induction hrows with
    | refl => exact hu.2
    | tail hpath hstep ih => exact hstep.keeps_waits (Rows.keeps_windows hpath hu.1) ih

end Sys2Proof.Machine
end

section
/-! PROOFS. What the scan leaves (R55), that a generation changes at a grant alone (R5), and that no count rises above a quota (R10). -/

namespace Sys2Proof.Machine

variable {s t u : State}

/-! ### What makes a claim grantable -/

/-- Nothing that `t` has free was not free in `s`: channels, records, places below a quota. -/
structure NoFreer (s t : State) : Prop where
  channel : ∀ c, (t.channel c).state = .idle → (s.channel c).state = .idle
  lease : ∀ n, (t.lease n).state = .free → (s.lease n).state = .free
  master : ∀ m, (s.master m).count ≤ (t.master m).count ∧ (t.master m).quota ≤ (s.master m).quota

theorem NoFreer.refl (s : State) : NoFreer s s := ⟨fun _ => id, fun _ => id, fun _ => ⟨le_rfl, le_rfl⟩⟩

theorem NoFreer.trans (h : NoFreer s t) (h' : NoFreer t u) : NoFreer s u :=
  ⟨fun c hc => h.channel c (h'.channel c hc), fun n hn => h.lease n (h'.lease n hn),
    fun m => ⟨(h.master m).1.trans (h'.master m).1, (h'.master m).2.trans (h.master m).2⟩⟩

theorem NoFreer.grantableBehind (h : NoFreer s t) {older : List Claim} {q : Claim} (hq : t.grantableBehind older q) :
    s.grantableBehind older q := by
  obtain ⟨hchannels, ⟨n, hn⟩, hquota⟩ := hq
  exact ⟨fun c hc => ⟨h.channel c (hchannels c hc).1, (hchannels c hc).2⟩, ⟨n, h.lease n hn⟩,
    (h.master q.master).1.trans_lt (hquota.trans_le (h.master q.master).2)⟩

theorem noneGrantable_of_noFreer (h : NoFreer s t) (hclaims : t.claims = s.claims) (hs : s.noneGrantable) : t.noneGrantable := by
  rw [noneGrantable_iff_split] at hs ⊢
  exact fun older newer q e hq => hs older newer q (hclaims ▸ e) (h.grantableBehind hq)

theorem Calm.noFreer (h : Calm s t) : NoFreer s t := by
  refine ⟨fun c hc => ?_, fun n => (h.keeps_standing n).1.1, fun m => by simp [h.keeps.2.1 m]⟩
  cases h with
  | settings | start | stop | note | line => exact hc
  | offer | endOffer => simpa using hc
  | renew n stamp _ =>
    rw [renewLease_channel, Channel.unpark] at hc
    split_ifs at hc <;> exact hc
  | grace n _ =>
    rw [enterGrace_channel, Channel.park] at hc
    split_ifs at hc <;> exact hc
  | add n set _ _ =>
    rw [governChannels_channel] at hc
    split_ifs at hc
    · cases hc
    · exact hc
  | wave d v _ _ =>
    rw [setChannel_channel] at hc
    split_ifs at hc with hd
    · exact hd ▸ hc
    · exact hc
  | config d g _ =>
    rw [setChannel_channel] at hc
    split_ifs at hc with hd
    · exact hd ▸ hc
    · exact hc

theorem Calms.noFreer (h : Calms s t) : NoFreer s t := by
  induction h with
  | refl => exact .refl s
  | tail _ hstep ih => exact ih.trans hstep.noFreer

theorem noFreer_grant (q : Claim) {n : Fin 64} (hn : (s.lease n).state = .free) : NoFreer s (s.grant q n) := by
  refine ⟨fun c hc => ?_, fun k hk => ?_, fun m => ?_⟩
  · rw [grant_channel] at hc
    split_ifs at hc
    · cases hc
    · exact hc
  · rw [grant_lease] at hk
    split_ifs at hk with hkn
    · exact hkn ▸ hn
    · exact hk
  · rw [grant_master]
    split_ifs with hm
    · exact hm ▸ ⟨Nat.le_succ _, le_rfl⟩
    · exact ⟨le_rfl, le_rfl⟩

theorem ScanGrants.noFreer (h : ScanGrants s t) : NoFreer s t := by
  induction h with
  | refl => exact .refl s
  | tail _ hstep ih =>
    cases hstep with
    | grant older newer q n _ _ _ _ hn y _ =>
      have hgrant := noFreer_grant q hn
      exact ih.trans ⟨hgrant.channel, hgrant.lease, hgrant.master⟩

/-! ### The scan (R55) -/

/-- A claim that a scan passes is not grantable behind the claims it has passed. -/
theorem scanRecord_eq_none {older : List Claim} {reserved : ChannelSet} {q : Claim} (h : Reserves reserved older) :
    s.scanRecord reserved q = none ↔ ¬ s.grantableBehind older q := by
  rw [← not_iff_not, not_not, ← ne_eq, Option.ne_none_iff_exists']
  simp only [scanRecord_eq_some]
  constructor
  · rintro ⟨n, hidle, hreserved, hquota, hn⟩
    exact ⟨fun c hc => ⟨hidle c hc, (h.eq_false_iff c).1 (hreserved c hc)⟩, ⟨n, ((lowestFree_eq_some s).1 hn).1⟩, hquota⟩
  · rintro ⟨hchannels, ⟨n, hn⟩, hquota⟩
    obtain ⟨k, hk⟩ := Option.ne_none_iff_exists'.1 fun hnone => (lowestFree_eq_none s).1 hnone n hn
    exact ⟨k, fun c hc => (hchannels c hc).1, fun c hc => (h.eq_false_iff c).2 (hchannels c hc).2, hquota, hk⟩

theorem scanWalk_sublist (reserved : ChannelSet) (qs : List Claim) (s : State) : (s.scanWalk reserved qs).2.Sublist qs := by
  induction qs generalizing s reserved with
  | nil => exact .refl _
  | cons q qs ih =>
    unfold State.scanWalk
    split
    · exact (ih _ _).cons q
    · exact (ih _ _).cons_cons q

/-- The claims that a walk leaves behind `older` are not grantable there. -/
theorem scanWalk_noneGrantable (older : List Claim) (reserved : ChannelSet) (qs : List Claim) (s : State) (h : Reserves reserved older)
    (before newer : List Claim) (q : Claim) (hleft : (s.scanWalk reserved qs).2 = before ++ q :: newer) :
    ¬ (s.scanWalk reserved qs).1.grantableBehind (older ++ before) q := by
  induction qs generalizing s reserved older before with
  | nil => simp [State.scanWalk] at hleft
  | cons p qs ih =>
    unfold State.scanWalk at hleft ⊢
    cases hrecord : s.scanRecord reserved p with
    | some n =>
      simp only [hrecord] at hleft ⊢
      exact ih older reserved (s.grantWaiting p n) h before hleft
    | none =>
      simp only [hrecord] at hleft ⊢
      cases before with
      | nil =>
        obtain rfl : p = q := (List.cons.inj hleft).1
        rw [List.append_nil]
        have hwalk := (scanGrants_scanWalk (older ++ [p]) _ qs s (h.snoc p)).noFreer
        have hpath : NoFreer s (s.scanWalk (reserved ||| p.channels) qs).1 := ⟨hwalk.channel, hwalk.lease, hwalk.master⟩
        exact fun hq => (scanRecord_eq_none h).1 hrecord (hpath.grantableBehind hq)
      | cons p' before =>
        obtain ⟨rfl, hrest⟩ := List.cons.inj hleft
        simpa using ih (older ++ [p]) _ s (h.snoc p) before hrest

theorem scan_noneGrantable (s : State) : s.scan.noneGrantable := by
  rw [noneGrantable_iff_split]
  intro older newer q hsplit
  have h := scanWalk_noneGrantable [] 0 s.claims s reserves_nil older newer q hsplit
  rwa [List.nil_append] at h

/-- A walk past claims that are not grantable leaves all as it is. -/
theorem scanWalk_of_noneGrantable (older : List Claim) (reserved : ChannelSet) (qs : List Claim) (h : Reserves reserved older)
    (hnone : ∀ before newer q, qs = before ++ q :: newer → ¬ s.grantableBehind (older ++ before) q) :
    s.scanWalk reserved qs = (s, qs) := by
  induction qs generalizing older reserved with
  | nil => rfl
  | cons q qs ih =>
    have hrecord : s.scanRecord reserved q = none := (scanRecord_eq_none h).2 (by simpa using hnone [] qs q rfl)
    have hrest := ih (older ++ [q]) (reserved ||| q.channels) (h.snoc q) fun before newer p e => by
      simpa using hnone (q :: before) newer p (by rw [e]; rfl)
    unfold State.scanWalk
    simp only [hrecord, hrest]

theorem scan_of_noneGrantable (hs : s.noneGrantable) : s.scan = s := by
  rw [noneGrantable_iff_split] at hs
  have h := scanWalk_of_noneGrantable (s := s) [] 0 s.claims reserves_nil fun before newer q e => by simpa using hs before newer q e
  rw [State.scan, h]

/-- The scan that closes an event leaves no grantable claim, and an event that brings no trigger made none (R54). -/
theorem noneGrantable_closeEvent (hclaims : u.claims.Sublist s.claims) (hs : s.noneGrantable) : (closeEvent s u).noneGrantable := by
  unfold closeEvent
  split_ifs with htrigger
  · exact scan_noneGrantable u
  · rw [scanTriggered_iff] at htrigger
    push Not at htrigger
    obtain ⟨hchannel, hlease, hmaster, hlength⟩ := htrigger
    refine noneGrantable_of_noFreer ⟨fun c hc => ?_, fun n hn => ?_, fun m => ⟨(hmaster m).1, (hmaster m).2.1⟩⟩
      (hclaims.eq_of_length_le hlength) hs
    · by_contra h
      exact hchannel c h hc
    · by_contra h
      exact hlease n h hn

theorem Row.keeps_noneGrantable (h : Row s t) (hs : s.noneGrantable) : t.noneGrantable := by
  cases h with
  | calm h => exact noneGrantable_of_noFreer (Calms.noFreer h) (Calms.keeps h).2.2 hs
  | window => exact hs
  | answered m w x y _ h _ =>
    exact noneGrantable_of_noFreer (s := s) ⟨(Calms.noFreer h).channel, (Calms.noFreer h).lease, (Calms.noFreer h).master⟩
      (Calms.keeps h).2.2 hs
  | closed m w x y _ h _ =>
    have hclaims := (Endings.keeps h).2.1
    exact noneGrantable_closeEvent (hclaims ▸ .refl _) hs
  | lapsed h => exact noneGrantable_closeEvent ((Endings.keeps h).2.1 ▸ .refl _) hs
  | configured => exact noneGrantable_closeEvent (.refl _) hs
  | joined m w x q arrivals _ _ _ _ _ _ hwait =>
    rw [noneGrantable_iff_split] at hs ⊢
    intro older newer p hsplit hp
    have hsplit' : s.claims ++ [q] = older ++ p :: newer := hsplit
    obtain rfl | ⟨newer, l, rfl⟩ := newer.eq_nil_or_concat
    · obtain ⟨rfl, hq⟩ := List.append_inj' hsplit' rfl
      obtain rfl : q = p := by simpa using hq
      exact hwait hp
    · rw [List.concat_eq_append, ← List.cons_append, ← List.append_assoc] at hsplit'
      exact hs older newer p (List.append_inj' hsplit' rfl).1 hp
  | granted m w y q n _ _ _ _ hn =>
    have hgrant := noFreer_grant q hn
    exact noneGrantable_of_noFreer (s := s) ⟨hgrant.channel, hgrant.lease, hgrant.master⟩ (grant_keeps s q n).2.2.1 hs
  | tableReset => exact noneGrantable_of_claims_nil _ rfl
  | disabled m w k x y _ _ h _ _ =>
    have hclaims := (Endings.keeps h).2.1
    exact noneGrantable_closeEvent (hclaims ▸ List.filter_sublist) hs
  | ended p code h =>
    have hclaims := (Endings.keeps h).2.1
    exact noneGrantable_closeEvent (hclaims ▸ List.filter_sublist) hs
  | drained => exact noneGrantable_closeEvent (.refl _) hs
  | windowReset => exact noneGrantable_closeEvent List.filter_sublist hs

theorem Rows.keeps_noneGrantable (h : Rows s t) (hs : s.noneGrantable) : t.noneGrantable := by
  induction h with
  | refl => exact hs
  | tail _ hstep ih => exact hstep.keeps_noneGrantable ih

theorem Begun.noFreer (h : Begun s t) : NoFreer s t := by
  have hA : NoFreer s s.advanceA := ⟨fun c hc => by simpa using hc, fun _ => id, fun _ => ⟨le_rfl, le_rfl⟩⟩
  rcases h with rfl | rfl | rfl | rfl
  · exact .refl _
  · exact hA
  · exact ⟨fun _ => id, fun _ => id, fun _ => ⟨le_rfl, le_rfl⟩⟩
  · exact hA.trans ⟨fun _ => id, fun _ => id, fun _ => ⟨le_rfl, le_rfl⟩⟩

/-- Settles O14: a claim that the walk passes was not grantable then, and grants leave less free than before; an event that frees anything
is closed by a scan. -/
theorem scanLeavesNoGrantableClaim : Obligations.ScanLeavesNoGrantableClaim := by
  intro s
  refine ⟨scanWalk_sublist 0 s.claims s, (noneGrantable_iff_split _).1 (scan_noneGrantable s), scan_of_noneGrantable (scan_noneGrantable s),
    fun t hs hst => ?_⟩
  rcases step_inversion hst with ⟨rest, rfl⟩ | ⟨rest, u, hbegun, hrows⟩
  · exact noneGrantable_of_claims_nil _ (powerOn_reads _).2.2.2.2.2.2.1
  · exact hrows.keeps_noneGrantable (noneGrantable_of_noFreer hbegun.noFreer hbegun.keeps_windows.2 hs)

end Sys2Proof.Machine
end

section
/-! PROOFS. What one row does, on a settled state, to generations (R5) and to lease counts (R10). -/

namespace Sys2Proof.Machine

variable {s t u : State}

/-! ### Generations -/

theorem Calms.keeps_standing (h : Calms s t) (n : Fin 64) : (t.lease n).generation = (s.lease n).generation := by
  induction h with
  | refl => rfl
  | tail _ hstep ih => exact (hstep.keeps_standing n).2.2.1.trans ih

theorem Ending.keeps_generation (h : Ending s t) (n : Fin 64) : (t.lease n).generation = (s.lease n).generation := by
  cases h with
  | lapse k why _ =>
    rw [lapse_lease]
    split_ifs with hk
    · exact hk ▸ rfl
    · rfl
  | free k =>
    rw [freeLease_lease]
    split_ifs with hk
    · exact hk ▸ rfl
    · rfl
  | accept k m _ _ _ =>
    rw [acceptLease_lease]
    split_ifs with hk
    · exact hk ▸ rfl
    · rfl
  | drop k set _ _ _ =>
    rw [setLease_lease]
    split_ifs with hk
    · exact hk ▸ rfl
    · simp
  | withdraw m =>
    rw [withdrawOffersTo_lease]
    split_ifs <;> rfl
  | stall => rfl

theorem Endings.keeps_generation (h : Endings s t) (n : Fin 64) : (t.lease n).generation = (s.lease n).generation := by
  induction h with
  | refl => rfl
  | tail _ hstep ih => exact (hstep.keeps_generation n).trans ih

/-- Grants of a scan leave a record, or grant it once while it is FREE, at the present value of the claim's base. -/
theorem ScanGrants.lease (h : ScanGrants s t) : (∀ base, t.now base = s.now base)
    ∧ ∀ n, t.lease n = s.lease n ∨ ((s.lease n).state = .free ∧ ∃ q : Claim, t.lease n = q.granted (s.lease n) (s.now q.base)) := by
  induction h with
  | refl => exact ⟨fun _ => rfl, fun _ => .inl rfl⟩
  | @tail u _ _ hstep ih =>
    obtain ⟨hnow, hlease⟩ := ih
    cases hstep with
    | grant older newer q k _ _ _ _ hk y _ =>
      refine ⟨fun base => by simp [hnow], fun n => ?_⟩
      rw [(withClaims_keeps _ _).2.2.1, setWindow_lease, grant_lease]
      split_ifs with hn
      · subst hn
        obtain hsame | ⟨-, p, hp⟩ := hlease n
        · exact .inr ⟨hsame ▸ hk, q, by rw [hsame, hnow]⟩
        · rw [hp] at hk
          cases hk
      · exact hlease n

/-- Record `n` keeps its generation, or is as a grant on a record of that generation sets it. -/
def KeptOrGranted (s t : State) (n : Fin 64) : Prop :=
  (t.lease n).generation = (s.lease n).generation
  ∨ ∃ (q : Claim) (old : Lease), old.generation = (s.lease n).generation ∧ t.lease n = q.granted old (t.now q.base)

theorem keptOrGranted_closeEvent (before : State) {n : Fin 64} (h : (u.lease n).generation = (s.lease n).generation) :
    KeptOrGranted s (closeEvent before u) n := by
  obtain ⟨hnow, hlease⟩ := (scanGrants_closeEvent before u).lease
  obtain hsame | ⟨-, q, hq⟩ := hlease n
  · exact .inl (by rw [hsame, h])
  · exact .inr ⟨q, u.lease n, h, by rw [hq, hnow]⟩

theorem Row.keptOrGranted (h : Row s t) (n : Fin 64) : KeptOrGranted s t n := by
  cases h with
  | calm h => exact .inl (Calms.keeps_standing h n)
  | window | joined => exact .inl rfl
  | answered m w x y _ h _ => exact .inl (Calms.keeps_standing h n)
  | closed m w x y _ h _ => exact keptOrGranted_closeEvent s (Endings.keeps_generation h n)
  | lapsed h => exact keptOrGranted_closeEvent s (Endings.keeps_generation h n)
  | configured | drained | windowReset => exact keptOrGranted_closeEvent s rfl
  | granted m w y q k =>
    rw [KeptOrGranted, setWindow_lease, grant_lease]
    split_ifs with hn
    · exact .inr ⟨q, s.lease k, hn ▸ rfl, by simp⟩
    · exact .inl rfl
  | tableReset =>
    left
    rw [setWindow_lease, resetTable_lease]
    rfl
  | disabled m w k x y _ _ h _ _ => exact keptOrGranted_closeEvent s (Endings.keeps_generation h n)
  | ended p code h => exact keptOrGranted_closeEvent s (Endings.keeps_generation h n)

/-- Settles O58: a row changes a generation by a grant alone, at once or in the scan that closes it. -/
theorem generationChangesOnlyAtAGrant : Obligations.GenerationChangesOnlyAtAGrant := by
  intro i n s t hs hi hexec
  rcases (row_of_exec_settled hs hi hexec).keptOrGranted n with hsame | ⟨q, old, hold, hgranted⟩
  · exact .inl hsame
  · right
    rw [hgranted, ← hold]
    exact ⟨rfl, Option.some_ne_none _, rfl, rfl, rfl, rfl, rfl, rfl, rfl, rfl, rfl⟩

/-! ### Lease counts and quotas -/

/-- No count has risen above its quota. -/
def WithinQuota (s t : State) : Prop :=
  ∀ m, (s.master m).count < (t.master m).count → (t.master m).count ≤ (t.master m).quota

theorem WithinQuota.refl (s : State) : WithinQuota s s := fun _ h => absurd h (lt_irrefl _)

theorem WithinQuota.of_count_le (h : ∀ m, (t.master m).count ≤ (s.master m).count) : WithinQuota s t :=
  fun m hm => absurd hm (not_lt.2 (h m))

theorem WithinQuota.trans (h : WithinQuota s t) (h' : WithinQuota t u) (hquota : ∀ m, (u.master m).quota = (t.master m).quota) :
    WithinQuota s u := by
  intro m hm
  by_cases htu : (t.master m).count < (u.master m).count
  · exact h' m htu
  · have hut := not_lt.1 htu
    rw [hquota]
    exact hut.trans (h m (hm.trans_le hut))

/-- One master's count rises by one from below its quota. -/
theorem WithinQuota.of_raise {m : Fin 8} (hm : (s.master m).count < (s.master m).quota)
    (hraised : ∀ k, (t.master k).quota = (s.master k).quota ∧ (t.master k).count ≤ (s.master k).count + if k = m then 1 else 0) :
    WithinQuota s t := by
  intro k hk
  obtain ⟨hquota, hcount⟩ := hraised k
  rw [hquota]
  split_ifs at hcount with h
  · exact hcount.trans (h ▸ hm)
  · exact absurd hk (not_lt.2 hcount)

theorem Ending.withinQuota (h : Ending s t) : WithinQuota s t := by
  cases h with
  | lapse | drop | withdraw => exact .of_count_le fun m => le_of_eq (by simp)
  | stall => exact .refl s
  | free n =>
    refine .of_count_le fun m => ?_
    rw [freeLease_master]
    split_ifs
    · exact Nat.sub_le _ _
    · exact le_rfl
  | accept n m _ _ hquota =>
    refine .of_raise hquota fun k => ?_
    rw [acceptLease_master]
    refine ⟨rfl, Nat.add_le_add_right ?_ _⟩
    split_ifs
    · exact Nat.sub_le _ _
    · exact le_rfl

theorem Endings.withinQuota (h : Endings s t) : WithinQuota s t := by
  induction h with
  | refl => exact .refl s
  | tail _ hstep ih => exact ih.trans hstep.withinQuota fun m => (hstep.keeps.2.2.2.2 m).2.2

theorem withinQuota_grant {q : Claim} (n : Fin 64) (hquota : (s.master q.master).count < (s.master q.master).quota) :
    WithinQuota s (s.grant q n) := by
  refine .of_raise hquota fun k => ⟨(grant_master_keeps q n k).2.2, ?_⟩
  rw [grant_master]
  split_ifs with h
  · exact h ▸ le_rfl
  · exact le_rfl

theorem ScanGrants.withinQuota (h : ScanGrants s t) : WithinQuota s t ∧ ∀ m, (t.master m).quota = (s.master m).quota := by
  induction h with
  | refl => exact ⟨.refl s, fun _ => rfl⟩
  | @tail u _ _ hstep ih =>
    cases hstep with
    | grant older newer q n _ _ _ hquota _ y _ =>
      have hkeeps (m : Fin 8) : ((u.grant q n).master m).quota = (u.master m).quota := (grant_master_keeps q n m).2.2
      exact ⟨ih.1.trans (withinQuota_grant n hquota) hkeeps, fun m => (hkeeps m).trans (ih.2 m)⟩

theorem WithinQuota.closeEvent (h : WithinQuota s u) (before : State) : WithinQuota s (closeEvent before u) := by
  obtain ⟨hgrants, hquota⟩ := (scanGrants_closeEvent before u).withinQuota
  exact h.trans hgrants hquota

theorem withinQuota_closeEvent (h : ∀ m, u.master m = s.master m) : WithinQuota s (closeEvent s u) :=
  WithinQuota.closeEvent (.of_count_le fun m => by rw [h]) s

theorem Row.withinQuota (h : Row s t) : WithinQuota s t := by
  cases h with
  | calm h => exact .of_count_le fun m => le_of_eq (by rw [(Calms.keeps h).2.1])
  | window | joined => exact .refl s
  | answered m w x y _ h _ => exact .of_count_le fun k => le_of_eq (by rw [setWindow_master, (Calms.keeps h).2.1, setWindow_master])
  | @closed u m w x y _ h _ => 
    have hu := Endings.withinQuota h
    exact WithinQuota.closeEvent (s := s) (u := u.setWindow m w y) hu s
  | lapsed h => exact (Endings.withinQuota h).closeEvent s
  | configured m w x y _ k r hcount =>
    refine WithinQuota.closeEvent (.of_count_le fun j => le_of_eq ?_) s
    rw [setWindow_master, setMaster_master]
    split_ifs with hj
    · rw [hj, hcount]
    · rfl
  | granted m w y q n _ _ hq => exact withinQuota_grant n hq.quota
  | tableReset => exact .of_count_le fun m => by simp
  | @disabled u m w k x y _ _ h _ _ =>
    refine WithinQuota.closeEvent (WithinQuota.trans (t := u) (Endings.withinQuota h) (.of_count_le fun j => ?_) fun j => ?_) s <;>
      rw [setWindow_master, setMaster_master] <;> split_ifs with hj
    · exact Nat.zero_le _
    · exact le_rfl
    · exact hj ▸ rfl
    · rfl
  | ended p code h => exact WithinQuota.closeEvent (Endings.withinQuota h) s
  | drained | windowReset => exact withinQuota_closeEvent fun _ => rfl

/-- Settles O59: a count rises by a grant or an acceptance to a master below its quota, and by nothing else. -/
theorem countNeverRisesAboveQuota : Obligations.CountNeverRisesAboveQuota := by
  intro i m s t hs hexec
  by_cases hi : i = .resetN true
  · subst hi
    cases hexec
    rw [(powerOn_reads s).2.1]
    exact fun h => absurd h (Nat.not_lt_zero _)
  · exact (row_of_exec_settled hs hi hexec).withinQuota m

end Sys2Proof.Machine
end

section
/-! PROOFS. The Command Port's tables: what each command word leads to, and the statements about the checks of the port and of the
handles (O5, O6). -/

namespace Sys2Proof.Machine

variable {s : State} {m : Fin 8} {w : Fin 2} {word : Word}

/-! ### What the port refuses, by the table -/

section Bad

variable (a : Args)

theorem releaseBad_eq_badAtPort : releaseBad a = badAtPort 0x16 a := onOffOfWord_isNone _

theorem queryLeaseBad_eq_badAtPort : queryLeaseBad a = badAtPort 0x30 a := onOffOfWord_isNone _

theorem setOptionsBad_eq_badAtPort : setOptionsBad a = badAtPort 0x13 a := by
  have htable : badAtPort 0x13 a =
      decide (a[1].extractLsb' 0 4 = 0 ∨ (a[1].getLsbD 1 ∧ 1 < a[3].toNat) ∨ (a[1].getLsbD 2 ∧ 7 < a[4].toNat)
        ∨ (a[1].getLsbD 3 ∧ 1 < a[5].toNat)) := rfl
  simp only [htable, setOptionsBad, graceActionOfWord_isNone, onOffOfWord_isNone, Bool.decide_or, Bool.decide_and, Bool.or_assoc,
    Bool.beq_eq_decide_eq, Bool.decide_eq_true]

theorem setLevelBad_eq_badAtPort : setLevelBad a = badAtPort 0x21 a := by
  have htable : badAtPort 0x21 a = decide (15 < a[1].toNat ∨ 1 < a[2].toNat) := rfl
  simp only [htable, setLevelBad, channelBad, onOffOfWord_isNone, Bool.decide_or]

theorem selectorOfWord_isNone (v : Word) : (selectorOfWord v).isNone = decide (2 < v.toNat) := by
  rw [← safeLevelOfWord_isNone, selectorOfWord, safeLevelOfWord]
  split_ifs <;> rfl

theorem armSingleBad_eq_badAtPort : armSingleBad a = badAtPort 0x22 a := by
  have htable : badAtPort 0x22 a = decide (15 < a[1].toNat ∨ 2 < a[2].toNat ∨ 2 < a[5].toNat ∨ (a[2] = 0 ∧ a[5] = 0)) := rfl
  simp only [htable, armSingleBad, channelBad, selectorOfWord_isNone, Bool.decide_or, Bool.decide_and, Bool.or_assoc,
    Bool.beq_eq_decide_eq]

theorem stagePeriodicBad_eq_badAtPort : stagePeriodicBad a = badAtPort 0x23 a := by
  have htable : badAtPort 0x23 a = decide (15 < a[1].toNat ∨ a[2] = 1) := rfl
  simp only [htable, stagePeriodicBad, channelBad, Bool.decide_or, Bool.beq_eq_decide_eq]

theorem forceBad_eq_badAtPort : forceBad a = badAtPort 0x25 a := setLevelBad_eq_badAtPort a

/-- R151: a lease number above 63 has a bit above bit 5. -/
theorem ackNoticesBad_eq_badAtPort : ackNoticesBad a = badAtPort 0x41 a := by
  have htable : badAtPort 0x41 a = decide (63 < a[1].toNat) := rfl
  rw [htable, ackNoticesBad, Bool.eq_iff_iff, bne_iff_ne, decide_eq_true_iff, ne_eq, ← BitVec.toNat_inj, BitVec.extractLsb'_toNat,
    Nat.shiftRight_eq_div_pow]
  have := a[1].isLt
  simp
  omega

theorem setPrescalerBad_eq_badAtPort : setPrescalerBad a = badAtPort 0x51 a := by
  have htable : badAtPort 0x51 a = decide (a[0] = 0 ∨ 4096 < a[0].toNat ∨ 1 < a[1].toNat) := rfl
  simp only [htable, setPrescalerBad, onOffOfWord_isNone, Bool.decide_or, Bool.or_assoc, Bool.beq_eq_decide_eq]

theorem setBaseBBad_eq_badAtPort : setBaseBBad a = badAtPort 0x52 a := by
  have htable : badAtPort 0x52 a = decide (a[0] = 0 ∨ 256 < a[0].toNat ∨ 1 < a[2].toNat) := rfl
  simp only [htable, setBaseBBad, onOffOfWord_isNone, Bool.decide_or, Bool.or_assoc, Bool.beq_eq_decide_eq]

theorem configLineBad_eq_badAtPort : configLineBad a = badAtPort 0x60 a := by
  have htable : badAtPort 0x60 a = decide (7 < a[0].toNat ∨ 3 < a[1].toNat) := rfl
  simp only [htable, configLineBad, edgeSettingOfWord_isNone, Bool.decide_or]

theorem configMasterBad_eq_badAtPort : configMasterBad a = badAtPort 0x70 a := by
  have htable : badAtPort 0x70 a =
      decide ((a[0] = 0 ∧ (7 < a[1].toNat ∨ 1 < a[2].toNat ∨ 64 < a[3].toNat ∨ 7 < a[4].toNat ∨ 1 < a[5].toNat))
        ∨ (a[0] = 1 ∧ (7 < a[1].toNat ∨ 1 < a[2].toNat)) ∨ 1 < a[0].toNat) := rfl
  rw [htable]
  unfold configMasterBad
  split_ifs with h0 h1
  · simp [supervisorFormBad, onOffOfWord_isNone, h0, Bool.or_assoc]
  · simp [selfFormBad, onOffOfWord_isNone, h1]
  · have : 1 < a[0].toNat := by bv_omega
    simp [this]

theorem disableMasterBad_eq_badAtPort : disableMasterBad a = badAtPort 0x71 a := by
  have htable : badAtPort 0x71 a = decide (a[0] = 0 ∨ 7 < a[0].toNat) := rfl
  simp only [htable, disableMasterBad, Bool.decide_or, Bool.beq_eq_decide_eq]

end Bad

/-! ### The commands of the table -/

/-- A word names a command with these port checks and this owner; `checks` is its row of the table of handle checks (R7). -/
structure IsCommand (m : Fin 8) (w : Fin 2) (word : Word) (reserved bad : Args → Bool) (owner : Args → State → Reply) : Prop where
  run : (∀ s, writeCommandWord m w word s = takeCommand m w word reserved bad owner s)
    ∨ ∀ s, writeCommandWord m w word s = closeEvent s (takeCommand m w word reserved bad owner s)
  reserved : ∀ a, reserved a = reservedToMaster0 word a
  bad : ∀ a, bad a = badAtPort word a
  checks : ∀ a s checks, handleChecks word a = some checks → ∃ k, owner a s = s.onLease m a[0] checks.1 checks.2 k

/-- R7: QUERY_LEASE checks a handle that has a generation. -/
theorem queryLeaseOwner_checks (m : Fin 8) (a : Args) (s : State) (checks : Bool × Bool) (h : handleChecks 0x30 a = some checks) :
    ∃ k, queryLeaseOwner m a s = s.onLease m a[0] checks.1 checks.2 k := by
  have htable : handleChecks 0x30 a = if handleGeneration a[0] ≠ 0 then some (false, false) else none := by simp [handleChecks]
  rw [htable] at h
  split_ifs at h with hgeneration
  cases h
  exact ⟨_, if_neg hgeneration⟩

/-- R130: every waveform command makes the three handle checks. -/
theorem waveformOwner_checks {modeCheck : Mode → Option ResultCode} {act : Fin 16 → State → State} {a : Args} {s : State} {r : Reply}
    (h : r = waveformOwner m modeCheck act a s) : ∃ k, r = s.onLease m a[0] true true k :=
  ⟨_, h⟩

/-- Every named word is the word of a command: the table of the commands. -/
theorem isCommand_of_namesCommand (m : Fin 8) (w : Fin 2) (h : namesCommand word = true) :
    ∃ reserved bad owner, IsCommand m w word reserved bad owner := by
  simp only [namesCommand, List.contains_iff_mem, commandCodes, List.mem_cons, List.not_mem_nil, or_false] at h
  rcases h with rfl | rfl | rfl | rfl | rfl | rfl | rfl | rfl | rfl | rfl | rfl | rfl | rfl | rfl | rfl | rfl | rfl | rfl | rfl | rfl | rfl | rfl | rfl | rfl | rfl | rfl | rfl | rfl | rfl | rfl | rfl | rfl | rfl | rfl | rfl | rfl | rfl | rfl
  · exact ⟨never, claimBad, claimOwner m w, .inl fun _ => rfl, fun _ => rfl, claimBad_eq_badAtPort,
      fun _ _ _ h => nomatch h⟩
  · exact ⟨never, never, renewOwner m, .inl fun _ => rfl, fun _ => rfl, fun _ => rfl,
      fun _ _ _ h => ⟨_, by cases h; rfl⟩⟩
  · exact ⟨never, never, setTermOwner m, .inl fun _ => rfl, fun _ => rfl, fun _ => rfl,
      fun _ _ _ h => ⟨_, by cases h; rfl⟩⟩
  · exact ⟨never, setOptionsBad, setOptionsOwner m, .inl fun _ => rfl, fun _ => rfl, setOptionsBad_eq_badAtPort,
      fun _ _ _ h => ⟨_, by cases h; rfl⟩⟩
  · exact ⟨never, never, addChannelsOwner m, .inl fun _ => rfl, fun _ => rfl, fun _ => rfl,
      fun _ _ _ h => ⟨_, by cases h; rfl⟩⟩
  · exact ⟨never, never, dropChannelsOwner m, .inr fun _ => rfl, fun _ => rfl, fun _ => rfl,
      fun _ _ _ h => ⟨_, by cases h; rfl⟩⟩
  · exact ⟨never, releaseBad, releaseOwner m w, .inr fun _ => rfl, fun _ => rfl, releaseBad_eq_badAtPort,
      fun _ _ _ h => ⟨_, by cases h; rfl⟩⟩
  · exact ⟨never, never, retireOwner m, .inr fun _ => rfl, fun _ => rfl, fun _ => rfl,
      fun _ _ _ h => ⟨_, by cases h; rfl⟩⟩
  · exact ⟨never, (fun a => 7 < a[1].toNat), offerOwner m, .inl fun _ => rfl, fun _ => rfl, fun _ => rfl,
      fun _ _ _ h => ⟨_, by cases h; rfl⟩⟩
  · exact ⟨never, never, withdrawOwner m, .inl fun _ => rfl, fun _ => rfl, fun _ => rfl,
      fun _ _ _ h => ⟨_, by cases h; rfl⟩⟩
  · exact ⟨never, never, acceptOwner m, .inr fun _ => rfl, fun _ => rfl, fun _ => rfl,
      fun _ _ _ h => nomatch h⟩
  · exact ⟨never, never, declineOwner m, .inl fun _ => rfl, fun _ => rfl, fun _ => rfl,
      fun _ _ _ h => nomatch h⟩
  · exact ⟨never, setModeBad, setModeOwner m, .inl fun _ => rfl, fun _ => rfl, setModeBad_eq_badAtPort,
      fun _ _ _ h => by cases h; unfold setModeOwner; exact waveformOwner_checks rfl⟩
  · exact ⟨never, setLevelBad, setLevelOwner m, .inl fun _ => rfl, fun _ => rfl, setLevelBad_eq_badAtPort,
      fun _ _ _ h => by cases h; exact waveformOwner_checks rfl⟩
  · exact ⟨never, armSingleBad, armSingleOwner m, .inl fun _ => rfl, fun _ => rfl, armSingleBad_eq_badAtPort,
      fun _ _ _ h => by cases h; exact waveformOwner_checks rfl⟩
  · exact ⟨never, stagePeriodicBad, stagePeriodicOwner m, .inl fun _ => rfl, fun _ => rfl, stagePeriodicBad_eq_badAtPort,
      fun _ _ _ h => by cases h; exact waveformOwner_checks rfl⟩
  · exact ⟨never, channelBad, restartPeriodicOwner m, .inl fun _ => rfl, fun _ => rfl, fun _ => rfl,
      fun _ _ _ h => by cases h; exact waveformOwner_checks rfl⟩
  · exact ⟨never, forceBad, forceOwner m, .inl fun _ => rfl, fun _ => rfl, forceBad_eq_badAtPort,
      fun _ _ _ h => by cases h; exact waveformOwner_checks rfl⟩
  · exact ⟨never, queryLeaseBad, queryLeaseOwner m, .inl fun _ => rfl, fun _ => rfl, queryLeaseBad_eq_badAtPort,
      queryLeaseOwner_checks m⟩
  · exact ⟨never, (fun a => 15 < a[0].toNat), (fun a s => answer s .ok (s.findChannelWords (channelOfWord a[0]))), .inl fun _ => rfl, fun _ => rfl, fun _ => rfl,
      fun _ _ _ h => nomatch h⟩
  · exact ⟨always, (fun a => 11 < a[0].toNat), (fun a s => answer s .ok (s.queryClaimsWords a[0].toNat)), .inl fun _ => rfl, fun _ => rfl, fun _ => rfl,
      fun _ _ _ h => nomatch h⟩
  · exact ⟨never, (fun a => 7 < a[0].toNat), (fun a s => answer s .ok (s.queryLineWords (eightOfWord a[0]))), .inl fun _ => rfl, fun _ => rfl, fun _ => rfl,
      fun _ _ _ h => nomatch h⟩
  · exact ⟨never, never, (fun _ s => answer s .ok (s.listOffersWords (s.offerList m))), .inl fun _ => rfl, fun _ => rfl, fun _ => rfl,
      fun _ _ _ h => nomatch h⟩
  · exact ⟨always, never, revokeOwner m, .inr fun _ => rfl, fun _ => rfl, fun _ => rfl,
      fun _ _ _ h => ⟨_, by cases h; rfl⟩⟩
  · exact ⟨always, never, purgeOwner m, .inr fun _ => rfl, fun _ => rfl, fun _ => rfl,
      fun _ _ _ h => ⟨_, by cases h; rfl⟩⟩
  · exact ⟨always, never, (fun _ s => answer s.resetTable .ok), .inl fun _ => rfl, fun _ => rfl, fun _ => rfl,
      fun _ _ _ h => nomatch h⟩
  · exact ⟨never, never, (fun _ s => answer s .ok (s.nextNoticeWords m)), .inl fun _ => rfl, fun _ => rfl, fun _ => rfl,
      fun _ _ _ h => nomatch h⟩
  · exact ⟨never, ackNoticesBad, ackNoticesOwner m, .inl fun _ => rfl, fun _ => rfl, ackNoticesBad_eq_badAtPort,
      fun _ _ _ h => ⟨_, by cases h; rfl⟩⟩
  · exact ⟨always, never, (fun _ s => answer { s with deviceNotice := .none } .ok [s.deviceNotice.code]), .inl fun _ => rfl, fun _ => rfl, fun _ => rfl,
      fun _ _ _ h => nomatch h⟩
  · exact ⟨never, never, (fun _ s => answer s .ok s.timeWords), .inl fun _ => rfl, fun _ => rfl, fun _ => rfl,
      fun _ _ _ h => nomatch h⟩
  · exact ⟨always, setPrescalerBad, (fun a s => answer (s.setPrescaler a[0] (a[1] == 1)) .ok), .inl fun _ => rfl, fun _ => rfl, setPrescalerBad_eq_badAtPort,
      fun _ _ _ h => nomatch h⟩
  · exact ⟨always, setBaseBBad, (fun a s => answer (s.setBaseB a[0] a[1] (a[2] == 1)) .ok), .inl fun _ => rfl, fun _ => rfl, setBaseBBad_eq_badAtPort,
      fun _ _ _ h => nomatch h⟩
  · exact ⟨always, never, startBaseBOwner, .inl fun _ => rfl, fun _ => rfl, fun _ => rfl,
      fun _ _ _ h => nomatch h⟩
  · exact ⟨always, never, stopBaseBOwner, .inl fun _ => rfl, fun _ => rfl, fun _ => rfl,
      fun _ _ _ h => nomatch h⟩
  · exact ⟨always, configLineBad, configLineOwner, .inl fun _ => rfl, fun _ => rfl, configLineBad_eq_badAtPort,
      fun _ _ _ h => nomatch h⟩
  · exact ⟨always, configChannelBad, configChannelOwner, .inl fun _ => rfl, fun _ => rfl, configChannelBad_eq_badAtPort,
      fun _ _ _ h => nomatch h⟩
  · exact ⟨configMasterReserved, configMasterBad,
      (fun a s => if a[0] = 0 then configMasterSupervisorOwner a s else configMasterSelfOwner m a s), .inr fun _ => rfl, fun _ => rfl, configMasterBad_eq_badAtPort,
      fun _ _ _ h => nomatch h⟩
  · exact ⟨always, disableMasterBad, disableMasterOwner, .inr fun _ => rfl, fun _ => rfl, disableMasterBad_eq_badAtPort,
      fun _ _ _ h => nomatch h⟩

/-! ### The port (R161, R162, R167) -/

/-- R167, check 1: a word that names no command is UNKNOWN_COMMAND's. -/
theorem writeCommandWord_unknown (h : namesCommand word = false) (m : Fin 8) (w : Fin 2) (s : State) :
    writeCommandWord m w word s = takeUnknown m w word s := by
  simp only [namesCommand, commandCodes, List.contains_cons, Bool.or_eq_false_iff, beq_eq_false_iff_ne, ne_eq] at h
  simp only [writeCommandWord, h, if_false]

/-- R162: a BUSY window discards any command word. -/
theorem writeCommandWord_busy (word : Word) (h : (s.window m w).state = .busy) :
    writeCommandWord m w word s = s.setWindow m w (s.window m w).collide := by
  cases hword : namesCommand word
  case false => rw [writeCommandWord_unknown hword, takeUnknown, if_pos h]
  case true =>
    obtain ⟨reserved, bad, owner, hcommand⟩ := isCommand_of_namesCommand m w hword
    obtain hrun | hrun := hcommand.run
    · rw [hrun, takeCommand_busy _ _ _ _ _ _ _ h]; rfl
    · rw [hrun, takeCommand_busy _ _ _ _ _ _ _ h]; exact closeEvent_setWindow _

/-- Every row of these is the write of its command word. -/
theorem exec_commandWrite {i : Instr} (h : commandWrite i = some (m, w, word)) (hs : s.settled) :
    exec i s = .next (writeCommandWord m w word s) := by
  cases i <;> cases h
  case commandCollision =>
    rw [exec_commandCollision, event_of_settled _ _ hs]
    split
    next hbusy => rw [writeCommandWord_busy _ hbusy]
    next => rfl
  all_goals exact event_of_settled s _ hs

/-- The port's checks 2 to 4 by the table (R167). -/
theorem portCheck_eq_portVerdict {reserved bad : Args → Bool} {owner : Args → State → Reply}
    (hcommand : IsCommand m w word reserved bad owner) (hword : namesCommand word = true) (a : Args) :
    portCheck s m (reserved a) (bad a) = portVerdict word a (s.master m).enabled m := by
  simp only [portCheck, portVerdict, hword, hcommand.reserved, hcommand.bad, Bool.not_eq_true', Bool.and_eq_true, bne_iff_ne]
  rfl

/-- A command whose result leaves the rest of the state alone brings no scan. -/
theorem writeCommandWord_eq_finish {reserved bad : Args → Bool} {owner : Args → State → Reply}
    (hcommand : IsCommand m w word reserved bad owner) {code : ResultCode}
    (h : takeCommand m w word reserved bad owner s = s.finish m w word code []) :
    writeCommandWord m w word s = s.finish m w word code [] := by
  obtain hrun | hrun := hcommand.run
  · rw [hrun, h]
  · rw [hrun, h]; exact closeEvent_setWindow _

/-- R167: the first check of the port that fails decides. -/
theorem writeCommandWord_of_portVerdict {code : ResultCode} (hfree : (s.window m w).state ≠ .busy)
    (h : portVerdict word (s.args m w) (s.master m).enabled m = some code) :
    writeCommandWord m w word s = s.finish m w word code [] := by
  cases hword : namesCommand word
  case false =>
    obtain rfl : ResultCode.unknownCommand = code := by simpa [portVerdict, hword] using h
    rw [writeCommandWord_unknown hword, takeUnknown, if_neg hfree, take_complete_eq_doneWith]
    rfl
  case true =>
    obtain ⟨reserved, bad, owner, hcommand⟩ := isCommand_of_namesCommand m w hword
    refine writeCommandWord_eq_finish hcommand (takeCommand_refused_eq_finish s m w word reserved bad owner hfree ?_)
    rw [portCheck_eq_portVerdict hcommand hword, h]

/-- Settles O5. -/
theorem portChecksInOrder : Obligations.PortChecksInOrder := by
  unfold Obligations.PortChecksInOrder
  intro i m w word s hi hs
  rw [exec_commandWrite hi hs]
  exact ⟨fun hbusy => congrArg _ (writeCommandWord_busy _ hbusy),
    fun code hfree hverdict => congrArg _ (writeCommandWord_of_portVerdict hfree hverdict)⟩

/-! ### The handle checks (R7) -/

/-- R7: a handle check that fails decides. -/
theorem writeCommandWord_of_handleVerdict {checks : Bool × Bool} {code : ResultCode} (hfree : (s.window m w).state ≠ .busy)
    (hport : portVerdict word (s.args m w) (s.master m).enabled m = none) (hchecks : handleChecks word (s.args m w) = some checks)
    (h : s.handleVerdict m (s.args m w)[0] checks = some code) :
    writeCommandWord m w word s = s.finish m w word code [] := by
  have hword : namesCommand word = true := by
    cases hnamed : namesCommand word
    case true => rfl
    case false => rw [portVerdict, if_pos hnamed] at hport; exact nomatch hport
  obtain ⟨reserved, bad, owner, hcommand⟩ := isCommand_of_namesCommand m w hword
  refine writeCommandWord_eq_finish hcommand (takeCommand_unchanged_eq_finish s m w word reserved bad owner hfree ?_ ?_)
  · rw [portCheck_eq_portVerdict hcommand hword, hport]
  · obtain ⟨k, hk⟩ := hcommand.checks (s.args m w) (s.setWindow m w ((s.window m w).take word)) checks hchecks
    rw [hk]
    refine onLease_of_refused _ _ k ?_
    rw [checkHandle_eq_handleVerdict]
    exact h

/-- Settles O6. -/
theorem handleChecksInOrder : Obligations.HandleChecksInOrder := by
  unfold Obligations.HandleChecksInOrder
  intro i m w word checks code s hi hs hfree hport hchecks hverdict
  rw [exec_commandWrite hi hs, writeCommandWord_of_handleVerdict hfree hport hchecks hverdict]

end Sys2Proof.Machine
end

section
/-! PROOFS. What a master other than 0 reaches with its bus accesses: its own leases, those offered to it, and its own windows (O60). -/

namespace Sys2Proof.Machine

variable {s t u : State} {m : Fin 8}

/-- What a change by master `m` leaves alone: every record that is not FREE and neither held by `m` nor offered to it; what other
masters wrote to their windows, and the whole of those in which no claim waits. Claims of other masters only leave the queue. -/
structure State.Spares (m : Fin 8) (s t : State) : Prop where
  lease : ∀ n, (s.lease n).state ≠ .free → (s.lease n).holder ≠ some m → (s.lease n).offerTarget ≠ some m → t.lease n = s.lease n
  written : ∀ k v, k ≠ m → (t.window k v).args = (s.window k v).args ∧ (t.window k v).command = (s.window k v).command
    ∧ (t.window k v).collision = (s.window k v).collision ∧ (t.window k v).abortNotTaken = (s.window k v).abortNotTaken
  window : ∀ k v, k ≠ m → (∀ q ∈ s.claims, ¬ (q.master = k ∧ q.window = v)) → t.window k v = s.window k v
  claims : ∀ q ∈ t.claims, q.master ≠ m → q ∈ s.claims

namespace State.Spares

protected theorem refl (m : Fin 8) (s : State) : s.Spares m s where
  lease _ _ _ _ := rfl
  written _ _ _ := ⟨rfl, rfl, rfl, rfl⟩
  window _ _ _ _ := rfl
  claims _ h _ := h

protected theorem trans (hst : s.Spares m t) (htu : t.Spares m u) : s.Spares m u where
  lease n hfree hholder htarget := by
    have hsame := hst.lease n hfree hholder htarget
    rw [htu.lease n (hsame ▸ hfree) (hsame ▸ hholder) (hsame ▸ htarget), hsame]
  written k v hk := by
    obtain ⟨h1, h2, h3, h4⟩ := hst.written k v hk
    obtain ⟨h1', h2', h3', h4'⟩ := htu.written k v hk
    exact ⟨h1'.trans h1, h2'.trans h2, h3'.trans h3, h4'.trans h4⟩
  window k v hk hnone := by
    refine (htu.window k v hk fun q hq hin => ?_).trans (hst.window k v hk hnone)
    exact hnone q (hst.claims q hq (hin.1 ▸ hk)) hin
  claims q hq hk := hst.claims q (htu.claims q hq hk) hk

/-- A change that leaves records, windows and claims as they are. -/
theorem of_same (hlease : ∀ n, t.lease n = s.lease n) (hwindow : ∀ k v, t.window k v = s.window k v) (hclaims : t.claims = s.claims) :
    s.Spares m t where
  lease n _ _ _ := hlease n
  written k v _ := by rw [hwindow]; exact ⟨rfl, rfl, rfl, rfl⟩
  window k v _ _ := hwindow k v
  claims q hq _ := hclaims ▸ hq

/-- A change of one record that `m` holds, or that is offered to it, or that is FREE. -/
theorem of_ownLease {n : Fin 64} (hown : (s.lease n).holder = some m ∨ (s.lease n).offerTarget = some m ∨ (s.lease n).state = .free)
    (hlease : ∀ k, k ≠ n → t.lease k = s.lease k) (hwindow : ∀ k v, t.window k v = s.window k v) (hclaims : t.claims = s.claims) :
    s.Spares m t where
  lease k hfree hholder htarget := by
    refine hlease k ?_
    rintro rfl
    obtain h | h | h := hown
    exacts [hholder h, htarget h, hfree h]
  written k v _ := by rw [hwindow]; exact ⟨rfl, rfl, rfl, rfl⟩
  window k v _ _ := hwindow k v
  claims q hq _ := hclaims ▸ hq

/-- A change of a window of `m`. -/
theorem setWindow (s : State) (m : Fin 8) (w : Fin 2) (x : Window) : s.Spares m (s.setWindow m w x) where
  lease _ _ _ _ := rfl
  written k v hk := by rw [setWindow_window, if_neg fun h => hk h.1]; exact ⟨rfl, rfl, rfl, rfl⟩
  window k v hk _ := by rw [setWindow_window, if_neg fun h => hk h.1]
  claims _ hq _ := hq

theorem removeClaims (s : State) (m : Fin 8) (p : Claim → Bool) : s.Spares m (s.removeClaims p) where
  lease _ _ _ _ := rfl
  written _ _ _ := ⟨rfl, rfl, rfl, rfl⟩
  window _ _ _ _ := rfl
  claims _ hq _ := (List.mem_filter.1 hq).1

/-- A claim of `m` joins the queue. -/
theorem joinQueue {q : Claim} (hq : q.master = m) (limit : Ticks) : s.Spares m (s.joinQueue q limit) where
  lease _ _ _ _ := rfl
  written _ _ _ := ⟨rfl, rfl, rfl, rfl⟩
  window _ _ _ _ := rfl
  claims p hp hm := by
    obtain h | h := List.mem_append.1 hp
    · exact h
    · obtain rfl := List.mem_singleton.1 h
      exact absurd hq hm

/-- A grant takes a FREE record. -/
theorem grant {n : Fin 64} (hn : (s.lease n).state = .free) (q : Claim) : s.Spares m (s.grant q n) :=
  of_ownLease (.inr (.inr hn)) (fun k hk => by rw [grant_lease, if_neg hk]) (fun _ _ => by simp) (by simp)

/-- A scan takes FREE records, and completes windows in which a claim waits. -/
theorem scanGrants (h : ScanGrants s t) : s.Spares m t := by
  induction h with
  | refl => exact .refl m s
  | tail _ hstep ih =>
    rename_i u v _
    refine ih.trans ?_
    cases hstep with
    | @grant older newer q n hclaims _ _ _ hn y hy =>
      have hgrant := State.Spares.grant (m := m) hn q
      have hwaits : q ∈ u.claims := by rw [hclaims]; simp
      have hwindow : ∀ k v, ((((u.grant q n).setWindow q.master q.window y).withClaims (older ++ newer)).window k v)
          = if k = q.master ∧ v = q.window then y else u.window k v := fun k v => by simp [setWindow_window]
      refine ⟨fun k hfree hholder htarget => ?_, fun k v hk => ?_, fun k v hk hnone => ?_, fun p hp _ => ?_⟩
      · simpa using hgrant.lease k hfree hholder htarget
      · rw [hwindow]
        split_ifs with hin
        · obtain ⟨rfl, rfl⟩ := hin
          rw [hy]
          exact ⟨rfl, rfl, rfl, rfl⟩
        · exact ⟨rfl, rfl, rfl, rfl⟩
      · rw [hwindow, if_neg fun hin => hnone q hwaits ⟨hin.1.symm, hin.2.symm⟩]
      · simp only [withClaims_keeps, List.mem_append] at hp
        rw [hclaims, List.mem_append, List.mem_cons]
        tauto

theorem closeEvent (h : s.Spares m t) (before : State) : s.Spares m (Machine.closeEvent before t) :=
  h.trans (scanGrants (scanGrants_closeEvent before t))

end State.Spares

/-! ### Commands -/

section Commands

variable {a : Args}

/-- A command of a master other than 0, whose owner spares what it must. -/
theorem spares_takeCommand {w : Fin 2} {word : Word} {reserved bad : Args → Bool} {owner : Args → State → Reply} (hm : m ≠ 0)
    (hs : s.channelsKept) (h : ∀ (a : Args) (t : State), t.channelsKept → reserved a = false → t.Spares m (owner a t).1) :
    s.Spares m (takeCommand m w word reserved bad owner s) := by
  have hwindow := State.Spares.setWindow s m w
  rcases takeCommand_cases m w word reserved bad owner s with ⟨-, e⟩ | ⟨-, code, e⟩ | ⟨-, -, hreserved, -, ⟨u, code, items, ho, e⟩ | ⟨u, ho, e⟩⟩
  · exact e ▸ hwindow _
  · exact e ▸ hwindow _
  · have howner := h (s.args m w) (s.setWindow m w ((s.window m w).take word)) hs (hreserved.resolve_right hm)
    rw [ho] at howner
    exact e ▸ ((hwindow _).trans howner).trans (.setWindow u m w _)
  · have howner := h (s.args m w) (s.setWindow m w ((s.window m w).take word)) hs (hreserved.resolve_right hm)
    rw [ho] at howner
    exact e ▸ (hwindow _).trans howner

theorem spares_onLease {h : Word} {holder lapsed : Bool} {k : Fin 64 → Reply}
    (hk : ∀ n, (holder = true → (s.lease n).holder = some m) → s.Spares m (k n).1) : s.Spares m (s.onLease m h holder lapsed k).1 := by
  cases hc : s.checkHandle m h holder lapsed with
  | some code => rw [onLease_of_refused s m k hc]; exact .refl m s
  | none =>
    rw [onLease_of_pass s m k hc]
    exact hk _ ((checkHandle_eq_none s m h holder lapsed).1 hc).2.2.1

theorem spares_claimOwner (w : Fin 2) : s.Spares m (claimOwner m w a s).1 := by
  unfold claimOwner
  dsimp only
  cases s.claimRefusal (claimOf m w a) a with
  | some refusal => exact .refl m s
  | none =>
    cases hn : s.grantableNow (claimOf m w a) with
    | some n =>
      refine .grant ?_ _
      unfold State.grantableNow at hn
      split_ifs at hn
      exact ((lowestFree_eq_some s).1 hn).1
    | none =>
      dsimp only
      split_ifs
      exacts [.refl m s, .refl m s, .joinQueue (q := claimOf m w a) rfl _]

theorem spares_renewLease {n : Fin 64} (hholder : (s.lease n).holder = some m) (stamp : Stamp) : s.Spares m (s.renewLease n stamp) :=
  .of_ownLease (.inl hholder) (fun k hk => by rw [renewLease_lease, if_neg hk]) (fun _ _ => by simp) (by simp)

theorem spares_renewOwner : s.Spares m (renewOwner m a s).1 := spares_onLease fun _ hholder => spares_renewLease (hholder rfl) _

/-- A change of the record of an own lease alone. -/
theorem spares_setLease {n : Fin 64} (hholder : (s.lease n).holder = some m) (l : Lease) : s.Spares m (s.setLease n l) :=
  .of_ownLease (.inl hholder) (fun _ hk => setLease_lease_other s hk l) (fun _ _ => rfl) rfl

theorem spares_addChannelsOwner : s.Spares m (addChannelsOwner m a s).1 :=
  spares_onLease fun n hholder => by
    cases s.addRefusal m a[1] with
    | some refusal => exact .refl m s
    | none => exact (spares_setLease (hholder rfl) _).trans (.of_same (fun _ => rfl) (fun _ _ => rfl) rfl)

theorem spares_dropChannelsOwner : s.Spares m (dropChannelsOwner m a s).1 :=
  spares_onLease fun n hholder => by
    dsimp only
    cases dropRefusal (s.lease n).channels a[1] with
    | some refusal => exact .refl m s
    | none =>
      exact .trans (t := s.releaseChannels a[1]) (.of_same (fun _ => rfl) (fun _ _ => rfl) rfl)
        (spares_setLease (s := s.releaseChannels a[1]) (hholder rfl) _)

theorem spares_freeLease {n : Fin 64} (hholder : (s.lease n).holder = some m) : s.Spares m (s.freeLease n) :=
  .of_ownLease (.inl hholder) (fun k hk => by rw [freeLease_lease, if_neg hk]) (fun _ _ => by simp) (by simp)

theorem spares_releaseOwner (w : Fin 2) : s.Spares m (releaseOwner m w a s).1 :=
  spares_onLease fun n hholder => by
    dsimp only
    split_ifs
    · exact (spares_freeLease (hholder rfl)).trans (.setWindow _ m w _)
    · exact spares_freeLease (hholder rfl)

theorem spares_retireOwner : s.Spares m (retireOwner m a s).1 :=
  spares_onLease fun n hholder => by
    dsimp only
    split_ifs
    · exact .refl m s
    · exact spares_freeLease (hholder rfl)

theorem spares_makeOffer {n : Fin 64} (hholder : (s.lease n).holder = some m) (target : Fin 8) :
    s.Spares m (s.makeOffer n target) :=
  .of_ownLease (.inl hholder) (fun k hk => by rw [makeOffer_lease, if_neg hk]) (fun _ _ => by simp) (by simp)

theorem spares_offerOwner : s.Spares m (offerOwner m a s).1 :=
  spares_onLease fun n hholder => by
    dsimp only
    cases s.offerRefusal n (eightOfWord a[1]) with
    | some refusal => exact .refl m s
    | none => exact spares_makeOffer (hholder rfl) _

theorem spares_endOffer {n : Fin 64} (h : (s.lease n).holder = some m ∨ (s.lease n).offerTarget = some m) :
    s.Spares m (s.endOffer n) :=
  .of_ownLease (h.imp_right .inl) (fun k hk => by rw [endOffer_lease, if_neg hk]) (fun _ _ => by simp) (by simp)

theorem spares_acceptLease {n : Fin 64} (htarget : (s.lease n).offerTarget = some m) : s.Spares m (s.acceptLease n m) :=
  .of_ownLease (.inr (.inl htarget)) (fun k hk => by rw [acceptLease_lease, if_neg hk]) (fun _ _ => by simp) (by simp)

theorem spares_acceptOwner : s.Spares m (acceptOwner m a s).1 := by
  unfold acceptOwner
  cases h : s.acceptRefusal m a[0] with
  | some refusal => exact .refl m s
  | none => exact spares_acceptLease (acceptRefusal_eq_none h).2.1

theorem spares_decline {n : Fin 64} (htarget : (s.lease n).offerTarget = some m) (kind : NoticeKind) :
    s.Spares m ((s.endOffer n).raiseNotice n kind) :=
  .of_ownLease (.inr (.inl htarget)) (fun k hk => by rw [raiseNotice_lease, if_neg hk, endOffer_lease, if_neg hk])
    (fun _ _ => by simp [State.raiseNotice]) (by simp [State.raiseNotice])

theorem spares_declineOwner : s.Spares m (declineOwner m a s).1 := by
  unfold declineOwner
  split_ifs with h
  · exact .refl m s
  · exact spares_decline (noOffer_eq_false.1 (by simpa using h)).2 _

theorem spares_ackNoticesOwner : s.Spares m (ackNoticesOwner m a s).1 :=
  spares_onLease fun n hholder => by
    dsimp only
    split_ifs
    exacts [spares_setLease (hholder rfl) _, .refl m s]

theorem spares_queryLeaseOwner : s.Spares m (queryLeaseOwner m a s).1 := by
  unfold queryLeaseOwner
  dsimp only
  split_ifs
  · exact .refl m s
  · exact .refl m s
  · exact spares_onLease fun _ _ => .refl m s
  · exact spares_onLease fun _ _ => .refl m s

/-! Waveform commands (R130): a channel that an own lease lists is governed by that lease, so that its notices are the holder's. -/

theorem spares_waveform {modeCheck : Mode → Option ResultCode} {act : Fin 16 → State → State}
    (hact : ∀ c n, (s.lease n).holder = some m → (s.lease n).channels.getLsbD c.val = true → s.Spares m (act c s)) :
    s.Spares m (waveformOwner m modeCheck act a s).1 :=
  spares_onLease fun n hholder => by
    dsimp only
    split_ifs with hlisted
    · cases modeCheck (s.channel (channelOfWord a[1])).wave.mode with
      | some code => exact .refl m s
      | none => exact hact _ n (hholder rfl) hlisted
    · exact .refl m s

theorem spares_setChannel (c : Fin 16) (x : Channel) : s.Spares m (s.setChannel c x) := .of_same (fun _ => rfl) (fun _ _ => rfl) rfl

theorem spares_raiseNotice {n : Fin 64} (hholder : (s.lease n).holder = some m) (kind : NoticeKind) :
    s.Spares m (s.raiseNotice n kind) := spares_setLease hholder _

theorem spares_startPeriod {c : Fin 16} {n : Fin 64} (hgoverning : (s.channel c).governing = some n)
    (hholder : (s.lease n).holder = some m) : s.Spares m (s.startPeriod c) := by
  rw [startPeriod_of_governing s hgoverning]
  dsimp only
  split_ifs
  · exact .trans (t := s.changeWave c Waveform.startPeriod) (spares_setChannel c _)
      (spares_raiseNotice (s := s.changeWave c Waveform.startPeriod) hholder _)
  · exact spares_setChannel c _

theorem spares_notifyGovernor {c : Fin 16} {n : Fin 64} (hgoverning : (s.channel c).governing = some n)
    (hholder : (s.lease n).holder = some m) (kind : NoticeKind) : s.Spares m (s.notifyGovernor c kind) := by
  rw [State.notifyGovernor, hgoverning]
  exact spares_raiseNotice hholder kind

theorem changeWave_governing (c : Fin 16) (f : Waveform → Waveform) :
    ((s.changeWave c f).channel c).governing = (s.channel c).governing := by
  rw [State.changeWave, setChannel_channel_same]

theorem spares_changeWave (c : Fin 16) (f : Waveform → Waveform) : s.Spares m (s.changeWave c f) := spares_setChannel c _

theorem spares_matchComparators {c : Fin 16} {n : Fin 64} (hgoverning : (s.channel c).governing = some n)
    (hholder : (s.lease n).holder = some m) (rise fall : Bool) : s.Spares m (s.matchComparators c rise fall) := by
  have hmatched : s.Spares m (s.changeWave c fun v => v.matched rise fall) := spares_changeWave c _
  unfold State.matchComparators
  dsimp only
  split_ifs
  · exact hmatched.trans (spares_notifyGovernor ((changeWave_governing c _).trans hgoverning) hholder _)
  · exact hmatched
  · exact .refl m s

theorem spares_armSingle {c : Fin 16} {n : Fin 64} (hgoverning : (s.channel c).governing = some n)
    (hholder : (s.lease n).holder = some m) (rise : Selector) (riseStamp : Stamp) (fall : Selector) (fallStamp : Stamp) :
    s.Spares m (s.armSingle c rise riseStamp fall fallStamp) :=
  .trans (spares_changeWave c _) (spares_matchComparators ((changeWave_governing c _).trans hgoverning) hholder _ _)

end Commands

/-! ### The rows -/

section Rows

variable (m) (w : Fin 2) (hm : m ≠ 0) (hs : s.channelsKept)

theorem spares_ite {p : Prop} [Decidable p] {x y : State} (hx : s.Spares m x) (hy : s.Spares m y) :
    s.Spares m (if p then x else y) := by
  split_ifs
  exacts [hx, hy]

include hm hs

/-- A command that leaves the state as it is. -/
theorem spares_query {word : Word} {reserved bad : Args → Bool} (words : Args → State → List Word) :
    s.Spares m (takeCommand m w word reserved bad (fun a s => answer s .ok (words a s)) s) :=
  spares_takeCommand hm hs fun _ t _ _ => .refl m t

/-- A command reserved to master 0. -/
theorem spares_reserved {word : Word} {bad : Args → Bool} {owner : Args → State → Reply} :
    s.Spares m (takeCommand m w word always bad owner s) :=
  spares_takeCommand hm hs fun _ _ _ h => nomatch h

/-- A waveform command that changes the waveform fields of its channel alone. -/
theorem spares_waveCommand {word : Word} {bad : Args → Bool} {modeCheck : Args → Mode → Option ResultCode}
    {act : Args → Fin 16 → State → State}
    (hact : ∀ (a : Args) (c : Fin 16) (n : Fin 64) (t : State), (t.channel c).governing = some n → (t.lease n).holder = some m → t.Spares m (act a c t)) :
    s.Spares m (takeCommand m w word never bad (fun a t => waveformOwner m (modeCheck a) (act a) a t) s) :=
  spares_takeCommand hm hs fun a t ht _ => spares_waveform fun c n hholder hlisted => hact a c n t (ht.2.2.1 n c hlisted) hholder

theorem spares_writeCommandWord (word : Word) : s.Spares m (writeCommandWord m w word s) := by
  have hcommand := @spares_takeCommand s m w
  have hwave : ∀ f : Args → Waveform → Waveform, ∀ (a : Args) (c : Fin 16) (n : Fin 64) (t : State), (t.channel c).governing = some n → (t.lease n).holder = some m →
      t.Spares m (t.changeWave c (f a)) := fun _ _ c _ _ _ _ => spares_setChannel c _
  unfold writeCommandWord
  refine spares_ite m (hcommand hm hs fun _ _ _ _ => spares_claimOwner w) ?_
  refine spares_ite m (hcommand hm hs fun _ _ _ _ => spares_renewOwner) ?_
  refine spares_ite m (hcommand hm hs fun _ _ _ _ => spares_onLease fun n h => spares_setLease (h rfl) _) ?_
  refine spares_ite m (hcommand hm hs fun _ _ _ _ => spares_onLease fun n h => spares_setLease (h rfl) _) ?_
  refine spares_ite m (hcommand hm hs fun _ _ _ _ => spares_addChannelsOwner) ?_
  refine spares_ite m (.closeEvent (hcommand hm hs fun _ _ _ _ => spares_dropChannelsOwner) s) ?_
  refine spares_ite m (.closeEvent (hcommand hm hs fun _ _ _ _ => spares_releaseOwner w) s) ?_
  refine spares_ite m (.closeEvent (hcommand hm hs fun _ _ _ _ => spares_retireOwner) s) ?_
  refine spares_ite m (hcommand hm hs fun _ _ _ _ => spares_offerOwner) ?_
  refine spares_ite m (hcommand hm hs fun _ _ _ _ => spares_onLease fun n h => spares_endOffer (.inl (h rfl))) ?_
  refine spares_ite m (.closeEvent (hcommand hm hs fun _ _ _ _ => spares_acceptOwner) s) ?_
  refine spares_ite m (hcommand hm hs fun _ _ _ _ => spares_declineOwner) ?_
  refine spares_ite m (spares_waveCommand m w hm hs (hwave fun a v => v.setMode ((modeOfWord a[2]).getD .level) a[3] a[4])) ?_
  refine spares_ite m (spares_waveCommand m w hm hs (hwave fun a v => v.setLevel (a[2] == 1))) ?_
  refine spares_ite m (spares_waveCommand m w hm hs fun _ _ _ _ hc hn => spares_armSingle hc hn _ _ _ _) ?_
  refine spares_ite m (spares_waveCommand m w hm hs (hwave fun a v => { v with staged := stagedPair a[2] a[3] })) ?_
  refine spares_ite m (spares_waveCommand m w hm hs fun _ _ _ _ hc hn => spares_startPeriod hc hn) ?_
  refine spares_ite m (spares_waveCommand m w hm hs (hwave fun a v => v.force (a[2] == 1))) ?_
  refine spares_ite m (hcommand hm hs fun _ _ _ _ => spares_queryLeaseOwner) ?_
  refine spares_ite m (spares_query m w hm hs _) ?_
  refine spares_ite m (spares_reserved m w hm hs) ?_
  refine spares_ite m (spares_query m w hm hs _) ?_
  refine spares_ite m (spares_query m w hm hs _) ?_
  refine spares_ite m (.closeEvent (spares_reserved m w hm hs) s) ?_
  refine spares_ite m (.closeEvent (spares_reserved m w hm hs) s) ?_
  refine spares_ite m (spares_reserved m w hm hs) ?_
  refine spares_ite m (spares_query m w hm hs _) ?_
  refine spares_ite m (hcommand hm hs fun _ _ _ _ => spares_ackNoticesOwner) ?_
  refine spares_ite m (spares_reserved m w hm hs) ?_
  refine spares_ite m (spares_query m w hm hs _) ?_
  iterate 6 refine spares_ite m (spares_reserved m w hm hs) ?_
  refine spares_ite m (.closeEvent (hcommand hm hs fun a t _ hself => ?_) s) ?_
  · rw [if_neg (by simpa [configMasterReserved] using hself)]
    exact .of_same (fun _ => rfl) (fun _ _ => rfl) rfl
  refine spares_ite m (.closeEvent (spares_reserved m w hm hs) s) ?_
  unfold takeUnknown
  exact spares_ite m (.setWindow s m w _) (.setWindow s m w _)

end Rows

theorem spares_abortControl (w : Fin 2) (s : State) : s.Spares m (abortControl m w s) := by
  unfold abortControl
  dsimp only
  split_ifs with _ hclaim
  · rw [endClaims_isIn _ (any_isIn_iff.1 hclaim)]
    exact ((State.Spares.removeClaims s m _).trans (.setWindow _ m w _)).closeEvent s
  · exact .setWindow s m w _
  · exact .setWindow s m w _
  · exact .setWindow s m w _

theorem spares_windowResetControl (w : Fin 2) (s : State) : s.Spares m (windowResetControl m w s) :=
  ((State.Spares.removeClaims s m _).trans (.setWindow _ m w _)).closeEvent s

theorem spares_busWrite (hm : m ≠ 0) (hs : s.channelsKept) (address : BitVec 6) (value : Word) :
    s.Spares m (busWrite m address value s) := by
  unfold busWrite
  generalize (if address.getLsbD 5 then 1 else 0 : Fin 2) = w
  dsimp only
  split_ifs
  exacts [.setWindow s m w _, spares_writeCommandWord m w hm hs value, spares_abortControl w s, .setWindow s m w _,
    spares_windowResetControl w s, .refl m s, .refl m s]

/-- The bus accesses of a master: its command words, and the other writes to its windows. -/
theorem issuer_eq_some {i : Instr} (h : issuer i = some m) :
    (∃ w word, commandWrite i = some (m, w, word)) ∨ (∃ w, i = .abort m w) ∨ (∃ w, i = .resultTaken m w) ∨ (∃ w, i = .windowReset m w)
    ∨ (∃ w index value, i = .argumentWordWrite m w index value) ∨ ∃ address value, i = .discardedWrite m address value := by
  cases i <;> simp_all [issuer, commandWrite]

/-- Every bus access of a master other than 0. -/
theorem spares_exec {i : Instr} (hs : s.settled) (hkept : s.channelsKept) (hi : issuer i = some m) (hm : m ≠ 0)
    (hst : exec i s = .next t) : s.Spares m t := by
  obtain ⟨w, word, hword⟩ | ⟨w, rfl⟩ | ⟨w, rfl⟩ | ⟨w, rfl⟩ | ⟨w, index, value, rfl⟩ | ⟨address, value, rfl⟩ := issuer_eq_some hi
  · rw [exec_commandWrite hword hs] at hst
    cases hst
    exact spares_writeCommandWord m w hm hkept word
  · rw [exec_abort, event_of_settled _ _ hs] at hst
    cases hst
    exact spares_abortControl w s
  · rw [exec_resultTaken, event_of_settled _ _ hs] at hst
    cases hst
    exact .setWindow s m w _
  · rw [exec_windowReset, event_of_settled _ _ hs] at hst
    cases hst
    exact spares_windowResetControl w s
  · rw [exec_argumentWordWrite, event_of_settled _ _ hs] at hst
    cases hst
    exact .setWindow s m w _
  · rw [exec_discardedWrite, event_of_settled _ _ hs] at hst
    cases hst
    exact spares_busWrite hm hkept address value

/-- Settles O60: a bus access of a master other than 0 spares what is not its own. -/
theorem userMastersReachOnlyTheirOwn : Obligations.UserMastersReachOnlyTheirOwn := by
  unfold Obligations.UserMastersReachOnlyTheirOwn
  intro i m s t hs hkept hi hm hst
  have hspares := spares_exec hs hkept hi hm hst
  refine ⟨fun n k hfree hholder hk htarget => hspares.lease n hfree (fun h => hk (Option.some.inj (hholder.symm.trans h))) htarget,
    fun k v hk => ?_⟩
  obtain ⟨hargs, hcommand, hcollision, habort⟩ := hspares.written k v hk
  exact ⟨hargs, hcommand, hcollision, habort, hspares.window k v hk⟩


end Sys2Proof.Machine
end

section
/-! PROOFS. Closing a tick (log 3, log 4): every part taken leaves fewer things open, whichever part the free choice takes first (O4). -/

namespace Sys2Proof.Machine

variable {s t u : State}

/-! ### What a channel may have open -/

/-- A comparator match, a width edge, a boundary or a drain end of a channel is due. -/
def Channel.due (ch : Channel) (now : Stamp) : Bool :=
  (ch.wave.mode == .single && (comparatorReached ch.wave.rise now || comparatorReached ch.wave.fall now))
  || (ch.wave.mode == .periodic && ch.wave.position == ch.wave.width && ch.wave.width.toNat < ch.wave.period.toNat && ch.wave.flipFlop)
  || (ch.governed && ch.wave.atBoundary) || (ch.state == .draining && ch.wave.atBoundary)

/-- Something of channel `c` is due. -/
def State.channelDue (s : State) (c : Fin 16) : Bool := (s.channel c).due s.baseA.counter

theorem channelDue_eq (s : State) (c : Fin 16) :
    s.channelDue c = (s.comparatorDue c || s.widthEdgeDue c || s.boundaryDue c || s.drainEndDue c) := rfl

theorem channelDue_eq_false (s : State) (c : Fin 16) : s.channelDue c = false ↔
    s.comparatorDue c = false ∧ s.widthEdgeDue c = false ∧ s.boundaryDue c = false ∧ s.drainEndDue c = false := by
  simp [channelDue_eq, and_assoc]

namespace Channel

variable {ch : Channel} {now : Stamp}

/-- A channel in LEVEL mode has nothing open. -/
theorem due_of_level (h : ch.wave.mode = .level) : ch.due now = false := by simp [due, Waveform.atBoundary, h]

/-- A release opens nothing: a channel that goes DRAINING has its drain end in the place of its boundary (R118). -/
theorem due_of_release_due (h : ch.release.due now = true) : ch.due now = true := by
  unfold release at h
  split_ifs at h with hdrains hgoverned
  · simp only [due, governed, beq_self_eq_true, Bool.true_and] at h ⊢
    obtain ⟨hactive, -⟩ := (channel_drains_iff ch).1 hdrains
    simp only [hactive] at h ⊢
    simpa using h
  · rw [due_of_level rfl] at h
    exact nomatch h
  · exact h

/-- A comparator that matches is disarmed (R136). -/
theorem matched_not_due (h : ch.wave.mode = .single) :
    ({ ch with wave := ch.wave.matched (comparatorReached ch.wave.rise now) (comparatorReached ch.wave.fall now) } : Channel).due now
      = false := by
  have hrise (r : Option Stamp) : comparatorReached (if comparatorReached r now = true then none else r) now = false := by
    split_ifs with hr
    · rfl
    · simpa using hr
  simp [due, Waveform.matched, Waveform.atBoundary, h, hrise]

/-- After its width edge the flip-flop is 0, and the position is below the period (R138). -/
theorem widthEdge_not_due (hmode : ch.wave.mode = .periodic) (hposition : ch.wave.position = ch.wave.width)
    (hwidth : ch.wave.width.toNat < ch.wave.period.toNat) :
    ({ ch with wave := { ch.wave with flipFlop := false } } : Channel).due now = false := by
  have hne : ch.wave.position ≠ ch.wave.period := by
    rintro h
    rw [← h, hposition] at hwidth
    exact lt_irrefl _ hwidth
  simp [due, Waveform.atBoundary, hmode, hne]

/-- A new period begins at position 0, with the flip-flop 0 where the width is 0 (R139). -/
theorem startPeriod_not_due (hmode : ch.wave.mode = .periodic) : ({ ch with wave := ch.wave.startPeriod } : Channel).due now = false := by
  generalize hpair : ch.wave.staged.getD (ch.wave.period, ch.wave.width) = pair
  obtain ⟨period, width⟩ := pair
  simp +contextual [due, Waveform.startPeriod, Waveform.atBoundary, hmode, hpair, eq_comm (a := 0#16)]

end Channel

/-! ### Changes that open nothing -/

/-- A change after which no tick and nothing of an A-tick is due that was not due before. -/
structure State.OpensNothing (s t : State) : Prop where
  baseA : t.baseA = s.baseA
  freeze : t.freeze = s.freeze
  baseB : t.baseB = s.baseB ∨ t.baseB.state = .stalled
  claims : ∀ q ∈ t.claims, q ∈ s.claims
  channel : ∀ c, t.channelDue c = true → s.channelDue c = true

namespace State.OpensNothing

protected theorem refl (s : State) : s.OpensNothing s := ⟨rfl, rfl, .inl rfl, fun _ h => h, fun _ h => h⟩

protected theorem trans (hst : s.OpensNothing t) (htu : t.OpensNothing u) : s.OpensNothing u where
  baseA := htu.baseA.trans hst.baseA
  freeze := htu.freeze.trans hst.freeze
  baseB := by
    obtain h | h := htu.baseB
    · rw [h]
      exact hst.baseB
    · exact .inr h
  claims q hq := hst.claims q (htu.claims q hq)
  channel c hc := hst.channel c (htu.channel c hc)

/-- A change of channels alone. -/
theorem of_channel (hA : t.baseA = s.baseA) (hfreeze : t.freeze = s.freeze) (hB : t.baseB = s.baseB) (hclaims : t.claims = s.claims)
    (h : ∀ c, t.channel c = s.channel c ∨ (t.channel c).due s.baseA.counter = false ∨ t.channel c = (s.channel c).release) :
    s.OpensNothing t where
  baseA := hA
  freeze := hfreeze
  baseB := .inl hB
  claims q hq := hclaims ▸ hq
  channel c hc := by
    unfold State.channelDue at hc ⊢
    rw [hA] at hc
    obtain hsame | hnone | hrelease := h c
    · rwa [hsame] at hc
    · rw [hnone] at hc
      exact nomatch hc
    · rw [hrelease] at hc
      exact Channel.due_of_release_due hc

theorem aTickDue (h : s.OpensNothing t) (hs : s.aTickDue = false) : t.aTickDue = false := by
  simpa only [State.aTickDue, State.frozenA, h.baseA, h.freeze] using hs

theorem bTickDue (h : s.OpensNothing t) (hs : s.bTickDue = false) : t.bTickDue = false := by
  obtain hB | hB := h.baseB
  · simpa only [State.bTickDue, State.frozenB, hB, h.freeze] using hs
  · simp [State.bTickDue, hB]

theorem stallDue (h : s.OpensNothing t) (ht : t.stallDue = true) : s.stallDue = true := by
  obtain hB | hB := h.baseB
  · simpa only [State.stallDue, State.watchRuns, State.frozenB, hB, h.freeze] using ht
  · simp [State.stallDue, State.watchRuns, hB] at ht

theorem stalled (h : s.OpensNothing t) (hs : s.baseB.state = .stalled) : t.baseB.state = .stalled := by
  obtain hB | hB := h.baseB
  · rwa [hB]
  · exact hB

theorem waitDeadlineDue (h : s.OpensNothing t) (ht : t.waitDeadlineDue = true) : s.waitDeadlineDue = true := by
  simp only [State.waitDeadlineDue, List.any_eq_true, State.deadlineReached, h.baseA] at ht ⊢
  obtain ⟨q, hq, hdue⟩ := ht
  exact ⟨q, h.claims q hq, hdue⟩

/-- A grant takes channels ACTIVE in LEVEL mode. -/
theorem grant (s : State) (q : Claim) (n : Fin 64) : s.OpensNothing (s.grant q n) :=
  .of_channel (by simp) (by simp) (by simp) (by simp) fun c => by
    rw [grant_channel]
    split_ifs
    exacts [.inr (.inl (Channel.due_of_level rfl)), .inl rfl]

theorem scanGrants (h : ScanGrants s t) : s.OpensNothing t := by
  induction h with
  | refl => exact .refl s
  | tail _ hstep ih =>
    refine ih.trans ?_
    cases hstep with
    | grant older newer q n hclaims =>
      refine (State.OpensNothing.grant _ q n).trans ⟨rfl, rfl, .inl rfl, fun p hp => ?_, fun _ h => h⟩
      simp only [withClaims_keeps, grant_keeps] at hp ⊢
      rw [hclaims]
      simp only [List.mem_append, List.mem_cons] at hp ⊢
      tauto

theorem closeEvent (h : s.OpensNothing t) (before : State) : s.OpensNothing (Machine.closeEvent before t) :=
  h.trans (scanGrants (scanGrants_closeEvent before t))

theorem raiseNotice (s : State) (n : Fin 64) (kind : NoticeKind) : s.OpensNothing (s.raiseNotice n kind) :=
  ⟨rfl, rfl, .inl rfl, fun _ h => h, fun _ h => h⟩

theorem notifyGovernor (s : State) (c : Fin 16) (kind : NoticeKind) : s.OpensNothing (s.notifyGovernor c kind) := by
  unfold State.notifyGovernor
  split
  exacts [raiseNotice s _ kind, .refl s]

/-- A change of one channel after which nothing of it is due. -/
theorem setChannel {c : Fin 16} {x : Channel} (h : x.due s.baseA.counter = false) :
    s.OpensNothing (s.setChannel c x) :=
  .of_channel rfl rfl rfl rfl fun d => by
    rw [setChannel_channel]
    split_ifs
    exacts [.inr (.inl h), .inl rfl]

theorem endClaims (s : State) (p : Claim → Bool) (code : ResultCode) : s.OpensNothing (s.endClaims p code) :=
  ⟨rfl, rfl, .inl rfl, fun _ hq => (List.mem_filter.1 hq).1, fun _ h => h⟩

theorem lapse (s : State) (n : Fin 64) (why : EndReason) : s.OpensNothing (s.lapse n why) :=
  .of_channel (by simp) (by simp) (by simp) (by simp) fun c => by
    rw [(lapse_keeps s n why).2.2.1, detach_channel]
    split_ifs
    exacts [.inr (.inr rfl), .inl rfl]

theorem foldl_lapse (l : List (Fin 64)) (why : EndReason) (s : State) : s.OpensNothing (l.foldl (fun t n => t.lapse n why) s) := by
  induction l generalizing s with
  | nil => exact .refl s
  | cons n l ih => exact (lapse s n why).trans (ih _)

end State.OpensNothing

/-! ### Every part closes something -/

/-- A part that concerns channel `c` alone is taken: nothing of the channel is due afterwards. -/
def ClosesChannel (s t : State) (c : Fin 16) : Prop := s.OpensNothing t ∧ t.channelDue c = false

theorem closesChannel_setChannel {c : Fin 16} {x : Channel} (h : x.due s.baseA.counter = false) :
    ClosesChannel s (s.setChannel c x) c :=
  ⟨.setChannel h, by rw [State.channelDue, setChannel_channel_same]; exact h⟩

theorem ClosesChannel.trans {c : Fin 16} (hst : ClosesChannel s t c) (htu : t.OpensNothing u) : ClosesChannel s u c := by
  refine ⟨hst.1.trans htu, ?_⟩
  by_contra h
  exact Bool.false_ne_true (hst.2.symm.trans (htu.channel c (by simpa using h)))

theorem closesChannel_takeComparators {c : Fin 16} (h : s.comparatorDue c = true) : ClosesChannel s (s.takeComparators c) c := by
  have hboth := h
  simp only [State.comparatorDue, Bool.and_eq_true, beq_iff_eq] at hboth
  obtain ⟨hmode, hreached⟩ := hboth
  have hclosed := closesChannel_setChannel (s := s) (c := c) (Channel.matched_not_due (now := s.baseA.counter) hmode)
  rw [State.takeComparators, if_pos h, State.matchComparators, if_pos hreached]
  dsimp only
  split_ifs
  exacts [hclosed.trans (.notifyGovernor _ c _), hclosed]

theorem closesChannel_takeWidthEdge {c : Fin 16} (h : s.widthEdgeDue c = true) : ClosesChannel s (s.takeWidthEdge c) c := by
  rw [State.takeWidthEdge, if_pos h]
  simp only [State.widthEdgeDue, Bool.and_eq_true, beq_iff_eq, decide_eq_true_eq] at h
  obtain ⟨⟨⟨hmode, hposition⟩, hwidth⟩, -⟩ := h
  exact closesChannel_setChannel (Channel.widthEdge_not_due hmode hposition hwidth)

theorem closesChannel_takeBoundary {c : Fin 16} (h : s.boundaryDue c = true) : ClosesChannel s (s.takeBoundary c) c := by
  rw [State.takeBoundary, if_pos h]
  simp only [State.boundaryDue, Waveform.atBoundary, Bool.and_eq_true, beq_iff_eq] at h
  have hclosed := closesChannel_setChannel (s := s) (c := c) (Channel.startPeriod_not_due (now := s.baseA.counter) h.2.1.1)
  unfold State.startPeriod
  dsimp only
  split
  · split_ifs
    exacts [hclosed.trans (.raiseNotice _ _ _), hclosed]
  · exact hclosed

theorem closesChannel_takeDrainEnd {c : Fin 16} (h : s.drainEndDue c = true) : ClosesChannel s (s.takeDrainEnd c) c := by
  rw [State.takeDrainEnd, if_pos h]
  have hclosed := closesChannel_setChannel (s := s) (c := c) (x := (s.channel c).enterIdle) (Channel.due_of_level rfl)
  have hwindows : ∀ f, (s.setChannel c (s.channel c).enterIdle).OpensNothing ((s.setChannel c (s.channel c).enterIdle).mapWindows f) :=
    fun f => ⟨rfl, rfl, .inl rfl, fun _ h => h, fun _ h => h⟩
  exact hclosed.trans (.trans (hwindows _) (.closeEvent (.refl _) s))

/-- Every reached deadline is answered at once. -/
theorem takeWaitDeadlines_closes (h : s.waitDeadlineDue = true) :
    s.OpensNothing s.takeWaitDeadlines ∧ s.takeWaitDeadlines.waitDeadlineDue = false := by
  rw [State.takeWaitDeadlines, if_pos h]
  have hends := State.OpensNothing.endClaims s s.deadlineReached .timedOut
  have hscan : (s.endClaims s.deadlineReached .timedOut).OpensNothing (closeEvent s (s.endClaims s.deadlineReached .timedOut)) :=
    .closeEvent (.refl _) s
  refine ⟨hends.trans hscan, ?_⟩
  by_contra hdue
  have := hscan.waitDeadlineDue (by simpa using hdue)
  simp only [State.waitDeadlineDue, List.any_eq_true] at this
  obtain ⟨q, hq, hreached⟩ := this
  have hkept : s.deadlineReached q = false := by simpa using (List.mem_filter.1 hq).2
  exact Bool.false_ne_true (hkept.symm.trans hreached)

/-- Base B does not run after a stall event. -/
theorem takeStall_closes (h : s.stallDue = true) : s.OpensNothing s.takeStall ∧ s.takeStall.stallDue = false := by
  rw [State.takeStall, if_pos h]
  dsimp only
  rw [foldl_lapse_baseB]
  have hlapsed := State.OpensNothing.foldl_lapse s.expiryB .baseStalled s
  generalize s.expiryB.foldl (fun t n => t.lapse n .baseStalled) s = u at *
  have hscan (v : State) (huv : u.OpensNothing v) (hv : v.baseB.state = .stalled) :
      s.OpensNothing (closeEvent s v) ∧ (closeEvent s v).stallDue = false := by
    have hclosed := (State.OpensNothing.refl v).closeEvent s
    exact ⟨hlapsed.trans (huv.trans hclosed), by simp [State.stallDue, State.watchRuns, hclosed.stalled hv]⟩
  exact hscan _ ⟨rfl, rfl, .inr rfl, fun _ hq => (List.mem_filter.1 hq).1, fun _ h => h⟩ rfl

/-! ### The number of things open -/

/-- How many things are open: the stall event, the deadlines, and the channels with something due. -/
def State.openCount (s : State) : Nat :=
  s.stallDue.toNat + s.waitDeadlineDue.toNat + (Finset.univ.filter fun c => s.channelDue c = true).card

theorem openCount_le (s : State) : s.openCount ≤ openPartsBound := by
  have hcard := Finset.card_le_univ (Finset.univ.filter fun c : Fin 16 => s.channelDue c = true)
  have h1 := Bool.toNat_le s.stallDue
  have h2 := Bool.toNat_le s.waitDeadlineDue
  simp only [Fintype.card_fin] at hcard
  unfold State.openCount openPartsBound
  omega

theorem toNat_le_of_imp {x y : Bool} (h : x = true → y = true) : x.toNat ≤ y.toNat := by
  cases x
  · exact Nat.zero_le _
  · rw [h rfl]

theorem openCount_lt (h : s.OpensNothing t)
    (hclosed : (s.stallDue = true ∧ t.stallDue = false) ∨ (s.waitDeadlineDue = true ∧ t.waitDeadlineDue = false)
      ∨ ∃ c, s.channelDue c = true ∧ t.channelDue c = false) : t.openCount < s.openCount := by
  have hstall := toNat_le_of_imp h.stallDue
  have hwait := toNat_le_of_imp h.waitDeadlineDue
  have hsub : (Finset.univ.filter fun c => t.channelDue c = true) ⊆ Finset.univ.filter fun c => s.channelDue c = true :=
    fun c hc => by simpa using h.channel c (by simpa using hc)
  have hcard := Finset.card_le_card hsub
  unfold State.openCount
  obtain ⟨hs, ht⟩ | ⟨hs, ht⟩ | ⟨c, hs, ht⟩ := hclosed
  · rw [hs, ht, Bool.toNat_true, Bool.toNat_false]
    omega
  · rw [hs, ht, Bool.toNat_true, Bool.toNat_false]
    omega
  · have hlt := Finset.card_lt_card (Finset.ssubset_iff_of_subset hsub |>.2 ⟨c, by simpa using hs, by simpa using ht⟩)
    omega

/-- The parts that are open. -/
theorem mem_openParts {p : TickPart} : p ∈ s.openParts ↔ match p with
    | .stall => s.stallDue = true
    | .deadlines => s.waitDeadlineDue = true
    | .comparators c => s.comparatorDue c = true
    | .widthEdge c => s.widthEdgeDue c = true
    | .boundary c => s.boundaryDue c = true
    | .drainEnd c => s.drainEndDue c = true := by
  cases p <;> simp [State.openParts]

/-- An open part that is taken opens nothing, and fewer things are open after it. -/
theorem takePart_closes {p : TickPart} (hp : p ∈ s.openParts) : s.OpensNothing (s.takePart p) ∧ (s.takePart p).openCount < s.openCount := by
  have hchannel {c : Fin 16} (hdue : s.channelDue c = true) {t : State} (h : ClosesChannel s t c) :
      s.OpensNothing t ∧ t.openCount < s.openCount := ⟨h.1, openCount_lt h.1 (.inr (.inr ⟨c, hdue, h.2⟩))⟩
  rw [mem_openParts] at hp
  cases p with
  | stall => exact ⟨(takeStall_closes hp).1, openCount_lt (takeStall_closes hp).1 (.inl ⟨hp, (takeStall_closes hp).2⟩)⟩
  | deadlines =>
    exact ⟨(takeWaitDeadlines_closes hp).1, openCount_lt (takeWaitDeadlines_closes hp).1 (.inr (.inl ⟨hp, (takeWaitDeadlines_closes hp).2⟩))⟩
  | comparators c => exact hchannel (by simp [channelDue_eq, hp]) (closesChannel_takeComparators hp)
  | widthEdge c => exact hchannel (by simp [channelDue_eq, hp]) (closesChannel_takeWidthEdge hp)
  | boundary c => exact hchannel (by simp [channelDue_eq, hp]) (closesChannel_takeBoundary hp)
  | drainEnd c => exact hchannel (by simp [channelDue_eq, hp]) (closesChannel_takeDrainEnd hp)

theorem openParts_of_openCount_eq_zero (h : s.openCount = 0) : s.openParts = [] := by
  refine List.eq_nil_iff_forall_not_mem.2 fun p hp => ?_
  exact absurd (takePart_closes hp).2 (by omega)

/-- As many parts as things are open close everything, in any order (log 4). -/
theorem closeParts_openParts (fuel : Nat) (s : State) (h : s.openCount ≤ fuel) :
    s.OpensNothing (s.closeParts fuel) ∧ (s.closeParts fuel).openParts = [] := by
  induction fuel generalizing s with
  | zero => exact ⟨.refl s, openParts_of_openCount_eq_zero (Nat.le_zero.1 h)⟩
  | succ fuel ih =>
    have hnext {t : State} (ht : s.OpensNothing t ∧ t.openCount < s.openCount) :
        s.OpensNothing (t.closeParts fuel) ∧ (t.closeParts fuel).openParts = [] :=
      ⟨ht.1.trans (ih t (by omega)).1, (ih t (by omega)).2⟩
    unfold State.closeParts
    split
    next hnil => exact ⟨.refl s, hnil⟩
    next p hone => exact hnext (takePart_closes (by rw [hone]; exact List.mem_singleton_self p))
    next p q ps hmore =>
      dsimp only
      generalize hchosen : (p :: q :: ps).getD _ p = chosen
      have hmem : chosen ∈ s.openParts := by
        have hlt : Config.tickOrder s.freeCount % (ps.length + 2) < (p :: q :: ps).length := Nat.mod_lt _ (Nat.succ_pos _)
        rw [hmore, ← hchosen, List.getD_eq_getElem _ _ hlt]
        exact List.getElem_mem _
      have hcounted : s.OpensNothing { s with freeCount := s.freeCount + 1 } := ⟨rfl, rfl, .inl rfl, fun _ h => h, fun _ h => h⟩
      obtain ⟨hopens, hfewer⟩ := takePart_closes (s := { s with freeCount := s.freeCount + 1 }) hmem
      exact hnext ⟨hcounted.trans hopens, hfewer⟩

/-! ### No tick is due after the due ticks have begun -/

theorem aTickDue_advanceA (h : 1 ≤ s.baseA.divisor.toNat) : s.advanceA.aTickDue = false := by
  simp only [State.aTickDue, State.advanceA, Bool.and_eq_false_iff, decide_eq_false_iff_not]
  exact .inr (decide_eq_false (Nat.not_le.2 h))

theorem bTickDue_advanceB (h : 1 ≤ s.baseB.divisor.toNat) : s.advanceB.bTickDue = false := by
  simp only [State.bTickDue, State.advanceB, Bool.and_eq_false_iff, decide_eq_false_iff_not]
  exact .inr (decide_eq_false (Nat.not_le.2 h))

theorem startTicks_not_due (h : s.divisorsKept) : s.startTicks.aTickDue = false ∧ s.startTicks.bTickDue = false := by
  obtain ⟨hA, -, hB, -⟩ := h
  have hbegun (t : State) (ht : t.aTickDue = false) (htB : 1 ≤ t.baseB.divisor.toNat) :
      (if t.bTickDue then t.advanceB else t).aTickDue = false ∧ (if t.bTickDue then t.advanceB else t).bTickDue = false := by
    split_ifs with hdue
    · exact ⟨ht, bTickDue_advanceB htB⟩
    · exact ⟨ht, by simpa using hdue⟩
  unfold State.startTicks
  dsimp only
  refine hbegun _ ?_ ?_
  · split_ifs with hdue
    · exact aTickDue_advanceA hA
    · simpa using hdue
  · split_ifs
    exacts [hB, hB]

/-- The comparator matches, width edges and boundaries of all channels open nothing. -/
theorem takeGenerators_opensNothing (s : State) : s.OpensNothing s.takeGenerators := by
  have hpart {t : State} {due : Bool} {u : State} (hdue : due = true → t.OpensNothing u) (hnot : due = false → u = t) : t.OpensNothing u := by
    cases due
    · rw [hnot rfl]; exact .refl t
    · exact hdue rfl
  unfold State.takeGenerators
  generalize List.finRange 16 = l
  induction l generalizing s with
  | nil => exact .refl s
  | cons c l ih =>
    refine .trans ?_ (ih _)
    refine .trans (hpart (fun h => (closesChannel_takeComparators (s := s) (c := c) h).1) (takeComparators_of_not_due s)) ?_
    refine .trans (hpart (fun h => (closesChannel_takeWidthEdge (c := c) h).1) (takeWidthEdge_of_not_due _)) ?_
    exact hpart (fun h => (closesChannel_takeBoundary (c := c) h).1) (takeBoundary_of_not_due _)

/-- Settles O4: the due ticks begin, and the parts that are open are taken one after another until none is left. -/
theorem closedTickLeavesNothingOpen : Obligations.ClosedTickLeavesNothingOpen := by
  unfold Obligations.ClosedTickLeavesNothingOpen
  intro s hdivisors
  obtain ⟨hA, hB⟩ := startTicks_not_due hdivisors
  have hclosed (t : State) (ht : s.startTicks.OpensNothing t) : (t.closeParts openPartsBound).quiet = true := by
    obtain ⟨hrest, hnone⟩ := closeParts_openParts openPartsBound t (openCount_le t)
    have hall := ht.trans hrest
    simp [State.quiet, hall.aTickDue hA, hall.bTickDue hB, hnone]
  unfold State.closeTick
  dsimp only
  split_ifs
  exacts [hclosed _ (.refl _), hclosed _ (takeGenerators_opensNothing _)]

end Sys2Proof.Machine
end

section
/-! PROOFS. The statements about a step, reset and the pins that follow from the definitions (O1 to O3, O46, O8, O9), and
about stamps and their queues (O45). -/

namespace Sys2Proof.Machine

variable {s : State}

/-! ### Steps and reset -/

/-- Settles O1. -/
theorem stepTakesTheFrontRow : Obligations.StepTakesTheFrontRow := by
  unfold Obligations.StepTakesTheFrontRow
  intro s
  constructor
  · intro c rest hpending
    simp only [step, hpending]
  · intro hpending
    simp only [step, hpending]

/-- The reset state, record by record. -/
@[simp] theorem reset_reads :
    (∀ m w, State.reset.window m w = .rest) ∧ (∀ m, State.reset.master m = .powerOn m) ∧ (∀ n, State.reset.lease n = .rest 0)
    ∧ (∀ m, State.reset.offerList m = []) ∧ (∀ c, State.reset.channel c = .powerOn) ∧ (∀ k, State.reset.line k = .powerOn false)
    ∧ State.reset.claims = [] ∧ State.reset.baseA = .powerOn ∧ State.reset.baseB = .powerOn ∧ State.reset.expiryA = []
    ∧ State.reset.expiryB = [] ∧ State.reset.deviceNotice = .none := by
  refine ⟨reset_window, ?_, ?_, ?_, ?_, ?_, rfl, rfl, rfl, rfl, rfl, rfl⟩ <;> intros <;>
    simp [State.reset, State.master, State.lease, State.offerList, State.channel, State.line]

/-- Settles O2: each power-on record is the one that its rule gives. -/
theorem resetHoldsPowerOnValues : Obligations.ResetHoldsPowerOnValues := by
  unfold Obligations.ResetHoldsPowerOnValues
  obtain ⟨hwindow, hmaster, hlease, hoffers, hchannel, hline, -⟩ := reset_reads
  refine ⟨fun n => ?_, hoffers, rfl, rfl, rfl, rfl, rfl, rfl, rfl, rfl, rfl, rfl, rfl, rfl, rfl, rfl, rfl, rfl, fun k => ?_, fun c => ?_,
    fun m w => ?_, fun m => ?_⟩
  · rw [hlease, rest_eq_blank]
  · rw [hline]
    exact ⟨rfl, rfl, rfl⟩
  · rw [hchannel]
    rfl
  · rw [hwindow]
    rfl
  · rw [hmaster]
    rfl

/-- While RESET_N is asserted nothing is taken (R177). -/
theorem exec_of_reset {i : Instr} (hs : s.resetAsserted = true) (hreset : ∀ r, i ≠ .resetN r) (hfreeze : ∀ f, i ≠ .freeze f)
    (hline : ∀ k r p, i ≠ .renewLineEdge k r p) : exec i s = .next s := by
  cases i
  case resetN r => exact absurd rfl (hreset r)
  case freeze f => exact absurd rfl (hfreeze f)
  case renewLineEdge k r p => exact absurd rfl (hline k r p)
  case aTick => rw [exec_aTick, if_pos hs]
  case' bTick | expiryEvent | stallEvent | waitDeadline | comparatorMatch | widthEdge | boundary | drainEnd =>
    simp only [exec]
    exact tickEvent_of_reset s _ hs
  all_goals
    simp only [exec]
    exact event_of_reset s _ hs

/-- Settles O3. -/
theorem resetLineHoldsThePart : Obligations.ResetLineHoldsThePart := by
  unfold Obligations.ResetLineHoldsThePart
  refine fun s => ⟨rfl, rfl, fun hs => ⟨fun i => exec_of_reset hs, fun f => ?_, fun k r p => ?_, fun m address => ?_, fun c => ?_, fun m => ?_⟩⟩
  · rw [exec_freeze, if_pos hs]
  · rw [exec_renewLineEdge, if_pos hs]
    rfl
  · rw [State.busRead, if_pos hs]
  · rw [State.outPin, if_pos hs]
  · rw [State.intPin, hs]
    rfl

/-- Settles O46: every record of the reset state is at rest, and every list is empty. -/
theorem resetKeepsEveryCondition : Obligations.ResetKeepsEveryCondition := by
  unfold Obligations.ResetKeepsEveryCondition
  have hlive (g : BitVec 8) : (Lease.rest g).live = false := rfl
  have hchannels (g : BitVec 8) : (Lease.rest g).channels = 0 := rfl
  refine ⟨⟨?_, ?_, ?_, ?_, ?_, ?_, ?_, ?_, ?_, ?_, ?_, ?_⟩, noneGrantable_of_claims_nil _ rfl, ?_, ?_⟩
  · simp [State.windowsKept, Window.rest]
  · simp [State.mastersKept, Master.powerOn]
  · simp [State.waitsKept, Window.rest]
  · simp [State.offersKept, Lease.rest]
  · simp [State.channelsKept, Channel.powerOn, hlive, hchannels]
  · simp [State.wavesKept, Channel.powerOn, Waveform.rest]
  · simp [State.expiryKept, hlive]
  · simp [State.linesKept, Line.powerOn, Lease.rest]
  · simp [State.countsKept, Lease.rest, Master.powerOn]
  · simp [State.baseBKept, hlive]
  · intro n
    simp [← rest_eq_blank, Lease.rest]
  · simp [State.divisorsKept, BaseA.powerOn, BaseB.powerOn]
  · simp [State.queuesOrdered]
  · simp [State.stampsNear]

/-! ### Stamps and queues -/

/-- R25, R36: a stamp set a term ahead is reached after that many ticks, and stays reached for 2³¹ ticks. -/
theorem reached_ahead_iff (now : Stamp) (term : Ticks) (k : Nat) (hk : k < 2 ^ 31 + term.toNat) :
    reached (now + term.setWidth 32) (now + BitVec.ofNat 32 k) = true ↔ term.toNat ≤ k := by
  have hterm := term.isLt
  have hnow := now.isLt
  have hwide : (term.setWidth 32).toNat = term.toNat := by
    rw [BitVec.toNat_setWidth]
    omega
  rw [reached, decide_eq_true_iff, BitVec.toNat_sub, BitVec.toNat_add, BitVec.toNat_add, BitVec.toNat_ofNat, hwide]
  omega

/-- R38: the place that entry by distance finds in a list in order. -/
theorem insertByDistance_split (d : Fin 64 → Int) (n : Fin 64) (q : List (Fin 64)) (hq : q.Pairwise fun x y => d x ≤ d y) :
    ∃ before after, q = before ++ after ∧ insertByDistance d n q = before ++ n :: after
      ∧ (∀ x ∈ before, d x ≤ d n) ∧ ∀ x ∈ after, d n < d x := by
  induction q with
  | nil => exact ⟨[], [], rfl, rfl, by simp, by simp⟩
  | cons y ys ih =>
    obtain ⟨hy, hys⟩ := List.pairwise_cons.1 hq
    unfold insertByDistance
    split_ifs with hle
    · obtain ⟨before, after, rfl, hinsert, hbefore, hafter⟩ := ih hys
      refine ⟨y :: before, after, rfl, by rw [hinsert]; rfl, ?_, hafter⟩
      simpa using ⟨hle, hbefore⟩
    · refine ⟨[], y :: ys, rfl, rfl, by simp, ?_⟩
      have hlt : d n < d y := not_le.1 hle
      simpa using ⟨hlt, fun x hx => hlt.trans_le (hy x hx)⟩

/-- Settles O45. -/
theorem stampsAreReachedAndQueuedInOrder : Obligations.StampsAreReachedAndQueuedInOrder := by
  unfold Obligations.StampsAreReachedAndQueuedInOrder
  exact ⟨reached_ahead_iff, fun d n q hq => ⟨pairwise_insertByDistance hq, insertByDistance_split d n q hq⟩⟩

/-! ### Writes and reads of the windows' words -/

/-- A write that is discarded changes nothing (R160, R172). -/
theorem busWrite_of_discarded {address : BitVec 6} {value : Word} (h : isDiscardedWrite address value = true) (m : Fin 8) :
    busWrite m address value s = s := by
  unfold isDiscardedWrite at h
  unfold busWrite
  generalize (address.extractLsb' 0 5).toNat = offset at *
  dsimp only at *
  by_cases hcontrol : offset = 9
  · subst hcontrol
    simp at h
    simp [h]
  · have hten : 10 ≤ offset := by simpa [hcontrol] using h
    rw [dif_neg (by omega), if_neg (by omega), if_neg hcontrol]

/-- Settles O8. -/
theorem argumentAndDiscardedWrites : Obligations.ArgumentAndDiscardedWrites := by
  unfold Obligations.ArgumentAndDiscardedWrites
  intro m w s hs
  refine ⟨fun index value => ?_, fun address value hdiscarded => ?_⟩
  · rw [exec_argumentWordWrite, event_of_settled _ _ hs, writeArgument, Window.writeArgument]
    exact ⟨fun hbusy => by rw [if_pos hbusy]; rfl, fun hfree => by rw [if_neg hfree]⟩
  · rw [exec_discardedWrite, event_of_settled _ _ hs, busWrite_of_discarded hdiscarded]

/-- A word address is a window and an offset. -/
theorem address_split (w : Fin 2) {k : Nat} (hk : k < 32) :
    (BitVec.ofNat 6 (32 * w.val + k)).getLsbD 5 = decide (w = 1) ∧ ((BitVec.ofNat 6 (32 * w.val + k)).extractLsb' 0 5).toNat = k := by
  have hw := w.isLt
  constructor
  · rw [BitVec.getLsbD_ofNat, Nat.testBit_eq_decide_div_mod_eq]
    simp only [Nat.reduceLT, decide_true, Bool.true_and, decide_eq_decide, Fin.ext_iff]
    omega
  · simp only [BitVec.extractLsb'_toNat, BitVec.toNat_ofNat, Nat.shiftRight_zero]
    omega

/-- R172: what stands at offset `k` of a window. -/
theorem busRead_at (hs : s.resetAsserted = false) (m : Fin 8) (w : Fin 2) {k : Nat} (hk : k < 32) :
    s.busRead m (BitVec.ofNat 6 (32 * w.val + k)) =
      if h : k < 8 then (s.args m w)[k]
      else if k = 8 then (s.window m w).command
      else if k = 9 then 0
      else if k = 10 then s.statusWord m w
      else if k = 11 then resultCodeWord (s.window m w).code
      else if h : k < 24 then (s.window m w).words[k - 12]
      else 0 := by
  obtain ⟨hwindow, hoffset⟩ := address_split w hk
  have hw : (if decide (w = 1) = true then 1 else 0 : Fin 2) = w := by
    rcases Fin.exists_fin_two.1 ⟨w, rfl⟩ with rfl | rfl <;> rfl
  rw [State.busRead, if_neg (by simp [hs]), hwindow, hw]
  simp only [hoffset]

/-- The fields of the status word (R172). -/
theorem statusWord_fields (enabled pending abort collision : Bool) (state : WindowState) :
    state.code ||| (bitWord collision <<< 2) ||| (bitWord abort <<< 3) ||| (bitWord pending <<< 4) ||| (bitWord enabled <<< 5)
      = 0#10 ++ BitVec.ofBool enabled ++ BitVec.ofBool pending ++ BitVec.ofBool abort ++ BitVec.ofBool collision
        ++ (match state with | .idle => 0#2 | .busy => 1#2 | .done => 2#2) := by
  cases state <;> revert enabled pending abort collision <;> decide

/-- Settles O9. -/
theorem busReadsShowTheWindow : Obligations.BusReadsShowTheWindow := by
  unfold Obligations.BusReadsShowTheWindow
  intro m w s hs
  refine ⟨fun i => ?_, ?_, ?_, ?_, ?_, fun i => ?_, fun i => ?_⟩
  · rw [busRead_at hs m w (by omega), dif_pos i.isLt]
    rfl
  · exact busRead_at hs m w (by omega)
  · exact busRead_at hs m w (by omega)
  · exact (busRead_at hs m w (by omega)).trans (statusWord_fields _ _ _ _ _)
  · rw [busRead_at hs m w (by omega)]
    show resultCodeWord (s.window m w).code = _
    cases (s.window m w).code <;> rfl
  · rw [add_assoc, busRead_at hs m w (by omega), dif_neg (by omega), if_neg (by omega), if_neg (by omega), if_neg (by omega),
      if_neg (by omega), dif_pos (by omega)]
    simp
  · rw [add_assoc, busRead_at hs m w (by omega), dif_neg (by omega), if_neg (by omega), if_neg (by omega), if_neg (by omega),
      if_neg (by omega), dif_neg (by omega)]

end Sys2Proof.Machine
end

section
/-! PROOFS. The output pins, the pins and ticks that drive the bases, and the commands that set and report the bases and the masters
(O30, O32, O34, O36, O38, O39). -/

namespace Sys2Proof.Machine

variable {s t : State}

/-! ### Output pins (R121, R122) -/

theorem outPin_of_deasserted (hs : s.resetAsserted = false) (c : Fin 16) : s.outPin c = (s.channel c).pin := by
  rw [State.outPin, hs]
  rfl

/-- R122: a pin off its safe level is that of an ACTIVE or DRAINING channel. -/
theorem pinsSafe_of_deasserted (hs : s.resetAsserted = false) : s.pinsSafe := by
  intro c hpin
  by_contra hstate
  rw [outPin_of_deasserted hs, hs, Channel.pin, if_neg hstate] at hpin
  exact hpin rfl

/-- Settles O36. -/
theorem outputPinLevels : Obligations.OutputPinLevels := by
  unfold Obligations.OutputPinLevels
  refine fun s hs => ⟨fun c => ⟨fun hstate => ?_, fun hstate => ?_⟩, pinsSafe_of_deasserted hs⟩
  · have hsafe : ¬ ((s.channel c).state = .active ∨ (s.channel c).state = .draining) := by
      rintro (h | h) <;> simp [h] at hstate
    rw [outPin_of_deasserted hs, Channel.pin, if_neg hsafe]
    cases (s.channel c).config.safeLevel <;> rfl
  · rw [outPin_of_deasserted hs, Channel.pin, if_pos hstate, ChannelConfig.shown]
    cases (s.channel c).config.polarity <;> cases (s.channel c).config.drive <;> cases (s.channel c).wave.flipFlop <;> rfl

/-! ### The waveform report (R131, R176) -/

/-- The flags word of the waveform report. -/
theorem waveFlags (flipFlop level staged rise fall : Bool) (mode : Mode) :
    mode.code ||| (bitWord flipFlop <<< 4) ||| (bitWord level <<< 5) ||| (bitWord staged <<< 8) ||| (bitWord rise <<< 12)
        ||| (bitWord fall <<< 13)
      = 0#2 ++ BitVec.ofBool fall ++ BitVec.ofBool rise ++ 0#3 ++ BitVec.ofBool staged ++ 0#2 ++ BitVec.ofBool level
        ++ BitVec.ofBool flipFlop ++ 0#2 ++ (match mode with | .level => 0#2 | .single => 1#2 | .periodic => 2#2) := by
  cases mode <;> revert flipFlop level staged rise fall <;> decide

/-- Settles O30. -/
theorem waveformReportWords : Obligations.WaveformReportWords := by
  unfold Obligations.WaveformReportWords
  intro c s
  simp only [State.waveformReport, waveFlags, stampWords, List.cons_append, List.nil_append]
  cases (s.channel c).wave.staged <;> cases (s.channel c).wave.rise <;> cases (s.channel c).wave.fall <;> rfl

/-! ### Pins and ticks (R27, R29, R30, R35) -/

/-- Settles O38. -/
theorem pinsDriveTheBases : Obligations.PinsDriveTheBases := by
  unfold Obligations.PinsDriveTheBases
  intro s hs
  have hclock : exec .systemClockPeriod s = .next s.clockPeriod := by rw [exec_systemClockPeriod, event_of_settled _ _ hs]
  have htref : exec .trefEdge s = .next s.trefEdge := by rw [exec_trefEdge, event_of_settled _ _ hs]
  have hfreeze (f : Bool) : exec (.freeze f) s = .next (s.setFreeze f) := by
    rw [exec_freeze, if_neg (by simp [hs.1]), event_of_settled _ _ hs]
  refine ⟨fun h => ?_, fun h => ?_, fun hrun hfrozen => ?_, fun h => ?_, ?_, ?_⟩
  · rw [hclock, State.clockPeriod, if_pos h]
  · rw [hclock, State.clockPeriod, if_neg (by simp [h])]
  · rw [htref, State.trefEdge, if_pos ⟨hrun, hfrozen⟩]
  · rw [htref, State.trefEdge, if_neg h]
  · rw [hfreeze, State.setFreeze, if_neg (by simp)]
  · rw [hfreeze, State.setFreeze]
    by_cases h : s.freeze = true ∧ s.baseB.honourFreeze = true
    · rw [if_pos (by simp [State.frozenB, h]), if_pos h]
    · rw [if_neg (by simpa [State.frozenB] using h), if_neg h]

theorem watchRuns_iff : s.watchRuns = true ↔
    s.baseB.state = .running ∧ (s.freeze = false ∨ s.baseB.honourFreeze = false) ∧ s.baseB.stallLimit ≠ 0 := by
  simp [State.watchRuns, State.frozenB, and_assoc]

theorem Waveform.advance_channel (ch : Channel) : ({ ch with wave := ch.wave.advance } : Channel) =
    if ch.wave.mode = .periodic then { ch with wave := { ch.wave with position := ch.wave.position + 1 } } else ch := by
  unfold Waveform.advance
  split_ifs <;> rfl

/-- R27, R28, R30, R138. -/
theorem advanceA_eq : s.advanceA =
    { (s.mapChannels fun _ ch => if ch.wave.mode = .periodic then
        { ch with wave := { ch.wave with position := ch.wave.position + 1 } } else ch) with
      baseA := { s.baseA with counter := s.baseA.counter + 1, count := 0, divisorInUse := s.baseA.divisor }
      baseB := { s.baseB with stallWatch :=
        if s.baseB.state = .running ∧ (s.freeze = false ∨ s.baseB.honourFreeze = false) ∧ s.baseB.stallLimit ≠ 0 then
          s.baseB.stallWatch + 1 else s.baseB.stallWatch } } := by
  simp only [State.advanceA, Waveform.advance_channel, watchRuns_iff]

/-- Settles O39. -/
theorem ticksAdvanceTheBases : Obligations.TicksAdvanceTheBases := by
  unfold Obligations.TicksAdvanceTheBases
  intro s hs
  have hA : exec .aTick s = if s.aTickDue then .next s.advanceA else .next s := by rw [exec_aTick, if_neg (by simp [hs])]
  refine ⟨fun hfree hcount => ?_, fun hshort => ?_⟩
  · have hdue : s.aTickDue = true := by simpa [State.aTickDue, State.frozenA, hcount] using hfree
    rw [hA, if_pos hdue, advanceA_eq]
  · have hnot : s.aTickDue = false := by
      obtain h | h := hshort
      · simp [State.aTickDue, h]
      · simp [State.aTickDue, h]
    have hB : exec .bTick s = .next (if s.bTickDue then s.advanceB else s) := by
      rw [exec_bTick, tickEvent, if_neg (by simp [hs]), State.startTicks, hnot]
      rfl
    refine ⟨by rw [hA, hnot]; rfl, fun hrun hfrozen hcount => ?_, fun h => ?_⟩
    · rw [hB, if_pos (by simp [State.bTickDue, hrun, hfrozen, hcount])]
      rfl
    · rw [hB, if_neg (by simpa [State.bTickDue, and_assoc] using h)]

/-! ### Commands that are done at once -/

section Taken

variable {m : Fin 8} {w : Fin 2} {word : Word} {reserved bad : Args → Bool} {owner : Args → State → Reply} {code : ResultCode}
  {items : List Word}

/-- A command taken by its owner with this answer, whatever the window holds meanwhile. -/
theorem takeCommand_eq_finish (hs : s.canTake m w) (hr : reserved (s.args m w) = false ∨ m = 0) (hbad : bad (s.args m w) = false)
    (ht : t.window m w = s.window m w)
    (ho : ∀ x : Window, owner (s.args m w) (s.setWindow m w x) = answer (t.setWindow m w x) code items) :
    takeCommand m w word reserved bad owner s = t.finish m w word code items := by
  have h := event_takeCommand_eq_finish word hs hr hbad ht ho
  rw [event_of_settled _ _ hs.1] at h
  exact Host.Outcome.next.inj h

/-- The scan follows where the event brings a trigger. -/
theorem closeEvent_eq_ite {p : Prop} [Decidable p] (h : scanTriggered s t = true ↔ p) : closeEvent s t = if p then t.scan else t := by
  simp only [closeEvent, h]

/-- A command whose owner answers so, and which closes its event. -/
theorem event_closed_eq_finish (hs : s.canTake m w) (hr : reserved (s.args m w) = false ∨ m = 0) (hbad : bad (s.args m w) = false)
    (ht : t.window m w = s.window m w)
    (ho : ∀ x : Window, owner (s.args m w) (s.setWindow m w x) = answer (t.setWindow m w x) code items) :
    event (fun s => closeEvent s (takeCommand m w word reserved bad owner s)) s = .next (closeEvent s (t.finish m w word code items)) := by
  rw [event_of_settled _ _ hs.1, takeCommand_eq_finish hs hr hbad ht ho]

/-- A refusal closes its event without a scan. -/
theorem event_closed_eq_finish_self (hs : s.canTake m w) (hr : reserved (s.args m w) = false ∨ m = 0) (hbad : bad (s.args m w) = false)
    (ho : ∀ x : Window, owner (s.args m w) (s.setWindow m w x) = answer (s.setWindow m w x) code items) :
    event (fun s => closeEvent s (takeCommand m w word reserved bad owner s)) s = .next (s.finish m w word code items) := by
  rw [event_closed_eq_finish hs hr hbad rfl ho]
  exact congrArg _ (closeEvent_setWindow _)

end Taken

/-! ### The bases (R28, R32 to R34) -/

/-- R30, R32: the stall watch after SET_BASE_B. -/
theorem setBaseB_eq (divisor limit : Word) (honour : Bool) : s.setBaseB divisor limit honour =
    { s with baseB := { s.baseB with
        divisor := divisor, stallLimit := limit, honourFreeze := honour
        stallWatch := if limit = 0 then 0
          else if s.freeze = true ∧ s.baseB.honourFreeze = true ∧ honour = true then s.baseB.stallWatch else 0 } } := by
  simp [State.setBaseB, watchAfterSet, State.frozenB, and_assoc]

section Bases

variable {w : Fin 2} (hs : s.canTake 0 w)
include hs

theorem exec_setPrescaler_of_taken (hbad : badAtPort 0x51 (s.args 0 w) = false) :
    exec (.setPrescaler 0 w) s =
      .next ((s.setPrescaler (s.args 0 w)[0] (decide ((s.args 0 w)[1] = 1))).finish 0 w 0x51 .ok []) :=
  event_takeCommand_eq_finish 0x51 hs (.inr rfl) ((setPrescalerBad_eq_badAtPort _).trans hbad) rfl fun _ => rfl

theorem exec_setBaseB_of_taken (hbad : badAtPort 0x52 (s.args 0 w) = false) :
    exec (.setBaseB 0 w) s =
      .next ((s.setBaseB (s.args 0 w)[0] (s.args 0 w)[1] (decide ((s.args 0 w)[2] = 1))).finish 0 w 0x52 .ok []) :=
  event_takeCommand_eq_finish 0x52 hs (.inr rfl) ((setBaseBBad_eq_badAtPort _).trans hbad) rfl fun _ => rfl

theorem exec_startBaseB_of_running (h : s.baseB.state = .running) : exec (.startBaseB 0 w) s = .next (s.finish 0 w 0x53 .wrongState []) :=
  event_takeCommand_eq_finish 0x53 hs (.inr rfl) rfl rfl fun _ => if_pos h

theorem exec_startBaseB_of_not_running (h : s.baseB.state ≠ .running) :
    exec (.startBaseB 0 w) s = .next (s.startBaseB.finish 0 w 0x53 .ok []) :=
  event_takeCommand_eq_finish 0x53 hs (.inr rfl) rfl rfl fun _ => if_neg h

theorem exec_stopBaseB_of_unused (h : s.baseB.state = .running) (hleases : s.liveOnB = 0) (hclaims : s.waitingOnB = 0) :
    exec (.stopBaseB 0 w) s = .next (s.stopBaseB.finish 0 w 0x54 .ok []) :=
  event_takeCommand_eq_finish 0x54 hs (.inr rfl) rfl rfl fun _ => if_neg (by
    rintro (hstate | hl | hc)
    exacts [hstate h, hl hleases, hc hclaims])

theorem exec_stopBaseB_of_used (h : ¬ (s.baseB.state = .running ∧ s.liveOnB = 0 ∧ s.waitingOnB = 0)) :
    exec (.stopBaseB 0 w) s = .next (s.finish 0 w 0x54 .wrongState [natWord s.liveOnB, natWord s.waitingOnB]) :=
  event_takeCommand_eq_finish 0x54 hs (.inr rfl) rfl rfl fun _ => if_pos (by
    by_contra hnone
    simp only [not_or, not_not] at hnone
    exact h hnone)

end Bases

/-- Settles O32. -/
theorem supervisorSetsTheBases : Obligations.SupervisorSetsTheBases := by
  unfold Obligations.SupervisorSetsTheBases
  intro w s hs
  refine ⟨exec_setPrescaler_of_taken hs, fun hbad => ?_, exec_startBaseB_of_running hs, exec_startBaseB_of_not_running hs,
    exec_stopBaseB_of_unused hs, exec_stopBaseB_of_used hs⟩
  rw [exec_setBaseB_of_taken hs hbad, setBaseB_eq]
  simp only [decide_eq_true_eq]

/-! ### CONFIG_MASTER (R169) -/

theorem Master.words_eq (x : Master) : x.words =
    [if x.enabled then 1 else 0, if x.role = .supervisor then 0 else 1, natWord x.quota, natWord x.count,
     x.completionUrgency.setWidth 16, if x.interruptEnable then 1 else 0] := by
  unfold Master.words
  cases x.role <;> rfl

/-- A change of one master's record brings a scan where its quota rises or it becomes enabled. -/
theorem scanTriggered_setMaster (k m : Fin 8) (w : Fin 2) (x : Master) (y : Window) (hcount : x.count = (s.master k).count) :
    scanTriggered s ((s.setMaster k x).setWindow m w y) = true ↔
      (s.master k).quota < x.quota ∨ ((s.master k).enabled = false ∧ x.enabled = true) := by
  rw [scanTriggered_iff]
  have hmaster : (∃ j, (((s.setMaster k x).setWindow m w y).master j).count < (s.master j).count
        ∨ (s.master j).quota < (((s.setMaster k x).setWindow m w y).master j).quota
        ∨ ((s.master j).enabled = false ∧ (((s.setMaster k x).setWindow m w y).master j).enabled = true))
      ↔ (s.master k).quota < x.quota ∨ ((s.master k).enabled = false ∧ x.enabled = true) := by
    constructor
    · rintro ⟨j, h⟩
      rw [setWindow_master, setMaster_master] at h
      split_ifs at h with hj
      · subst hj
        simpa [hcount] using h
      · simp at h
    · intro h
      exact ⟨k, .inr (by simpa using h)⟩
  rw [hmaster]
  simp

/-- Either form of CONFIG_MASTER, by the record that its owner sets. -/
theorem event_configMaster {m k : Fin 8} {w : Fin 2} {x : Master} (hs : s.canTake m w) (hr : (s.args m w)[0] ≠ 0 ∨ m = 0)
    (hbad : badAtPort 0x70 (s.args m w) = false) (hcount : x.count = (s.master k).count)
    (howner : ∀ y : Window, (if (s.args m w)[0] = 0 then configMasterSupervisorOwner (s.args m w) (s.setWindow m w y)
        else configMasterSelfOwner m (s.args m w) (s.setWindow m w y)) = answer ((s.setMaster k x).setWindow m w y) .ok x.words) :
    event (configMasterCommand m w) s = .next
      (if (s.master k).quota < x.quota ∨ ((s.master k).enabled = false ∧ x.enabled = true)
        then ((s.setMaster k x).finish m w 0x70 .ok x.words).scan else (s.setMaster k x).finish m w 0x70 .ok x.words) := by
  have hreserved : configMasterReserved (s.args m w) = false ∨ m = 0 := hr.imp_left fun h => by simpa [configMasterReserved] using h
  have hexec := event_closed_eq_finish (word := 0x70) (t := s.setMaster k x) (reserved := configMasterReserved)
    (owner := fun a s => if a[0] = 0 then configMasterSupervisorOwner a s else configMasterSelfOwner m a s) hs hreserved
    ((configMasterBad_eq_badAtPort _).trans hbad) rfl howner
  exact hexec.trans (congrArg _ (closeEvent_eq_ite (scanTriggered_setMaster k m w x _ hcount)))

/-- Settles O34. -/
theorem configMasterWritesTheRecord : Obligations.ConfigMasterWritesTheRecord := by
  unfold Obligations.ConfigMasterWritesTheRecord
  intro m w s hs
  dsimp only
  refine ⟨fun hm h0 hbad target htarget => ?_, fun h1 hbad => ?_⟩
  · refine (event_configMaster (k := target) (x := (s.master target).configured (s.args m w)) hs (.inr hm) hbad rfl fun y => ?_).trans ?_
    · rw [if_pos h0, configMasterSupervisorOwner, htarget, eightOfWord_natWord]
      rfl
    · have hcond : ((s.master target).quota < ((s.master target).configured (s.args m w)).quota
            ∨ ((s.master target).enabled = false ∧ ((s.master target).configured (s.args m w)).enabled = true))
          ↔ ((s.master target).quota < (s.args m w)[3].toNat ∨ ((s.master target).enabled = false ∧ (s.args m w)[2] = 1)) :=
        or_congr_right (by simp +contextual [Master.configured])
      simp only [hcond, Master.words_eq]
      rfl
  · have h0 : (s.args m w)[0] ≠ 0 := by rw [h1]; decide
    refine (event_configMaster (k := m) (x := (s.master m).selfConfigured (s.args m w)) hs (.inl h0) hbad rfl fun y => if_neg h0).trans ?_
    rw [if_neg (by simp [Master.selfConfigured]), Master.words_eq]
    rfl

end Sys2Proof.Machine
end

section
/-! PROOFS. CLAIM where it is taken or waits (O11, O12), RENEW, SET_TERM and SET_OPTIONS (O15, O17), and the edges of the renew lines
(O16). -/

namespace Sys2Proof.Machine

variable {s : State} {m : Fin 8} {w : Fin 2} {n : Fin 64}

/-! ### Effects that read no window -/

theorem setExpiryQueue_setWindow (x : Window) (base : Base) (q : List (Fin 64)) :
    (s.setWindow m w x).setExpiryQueue base q = (s.setExpiryQueue base q).setWindow m w x := by
  cases base <;> rfl

theorem oneTermAhead_setWindow (x : Window) (stamp : Stamp) :
    (s.setWindow m w x).oneTermAhead n stamp = (s.oneTermAhead n stamp).setWindow m w x := by
  unfold State.oneTermAhead
  simp only [setWindow_lease, setWindow_now, setWindow_expiryQueue]
  cases (s.lease n).base <;> rfl

theorem oneTermAhead_window (stamp : Stamp) : (s.oneTermAhead n stamp).window m w = s.window m w := by
  rw [← renewLease_eq_oneTermAhead]
  simp

/-! ### RENEW, SET_TERM and SET_OPTIONS -/

/-- Settles O15. -/
theorem renewSetsTheStampOneTermAhead : Obligations.RenewSetsTheStampOneTermAhead := by
  unfold Obligations.RenewSetsTheStampOneTermAhead
  intro m w n s hs hlease
  refine event_takeCommand_eq_finish 0x11 hs (.inl rfl) rfl (t := s.oneTermAhead n (s.now (s.lease n).base)) (oneTermAhead_window _)
    fun x => ?_
  rw [renewOwner, onLease_of_holdsLive (s := s.setWindow m w x) hlease]
  simp only [renewLease_eq_oneTermAhead, setWindow_now, setWindow_lease, oneTermAhead_setWindow]
  rfl

/-- R70: the words of SET_TERM. -/
theorem termWords_of_staged (l : Lease) (given : Ticks) (hl : s.lease n = { l with stagedTerm := stagedBy given }) : s.termWords n =
    [l.term.extractLsb' 0 16, (l.term.extractLsb' 16 8).setWidth 16, given.extractLsb' 0 16, (given.extractLsb' 16 8).setWidth 16,
     if given = 0 then 0 else 1] := by
  rw [State.termWords, hl, stagedBy]
  by_cases h : given = 0
  · subst h
    rfl
  · simp only [if_neg h]
    rfl

/-- R73: past the port, a selected option is one of its two values. -/
theorem withOptions_eq {a : Args} (h : badAtPort 0x13 a = false) (l : Lease) : l.withOptions a =
    { l with
      grace := if a[1].getLsbD 0 then a[2] else l.grace
      graceAction := if a[1].getLsbD 1 then (if a[3] = 1 then .park else .hold) else l.graceAction
      urgency := if a[1].getLsbD 2 then a[4].extractLsb' 0 3 else l.urgency
      boundaryNotices := if a[1].getLsbD 3 then decide (a[5] = 1) else l.boundaryNotices } := by
  have hbad : ¬ (a[1].extractLsb' 0 4 = 0 ∨ (a[1].getLsbD 1 ∧ 1 < a[3].toNat) ∨ (a[1].getLsbD 2 ∧ 7 < a[4].toNat)
      ∨ (a[1].getLsbD 3 ∧ 1 < a[5].toNat)) := of_decide_eq_false h
  simp only [not_or, not_and] at hbad
  obtain ⟨-, haction, -, hboundary⟩ := hbad
  have hbit {v : Word} (hv : ¬ 1 < v.toNat) : v = 0 ∨ v = 1 := by
    have hle : v.toNat = 0 ∨ v.toNat = 1 := by omega
    exact hle.imp BitVec.eq_of_toNat_eq BitVec.eq_of_toNat_eq
  have hpark : (if a[1].getLsbD 1 then (graceActionOfWord a[3]).getD l.graceAction else l.graceAction)
      = if a[1].getLsbD 1 then (if a[3] = 1 then .park else .hold) else l.graceAction := by
    split_ifs with hselected hone
    · rw [hone]; rfl
    · rw [(hbit (haction hselected)).resolve_right hone]; rfl
    · rfl
  have hnotices : (if a[1].getLsbD 3 then (onOffOfWord a[5]).getD l.boundaryNotices else l.boundaryNotices)
      = if a[1].getLsbD 3 then decide (a[5] = 1) else l.boundaryNotices := by
    split_ifs with hselected
    · obtain hzero | hone := hbit (hboundary hselected)
      · rw [hzero]; rfl
      · rw [hone]; rfl
    · rfl
  rw [Lease.withOptions, hpark, hnotices]
  rfl

/-- R72: the words of SET_OPTIONS. -/
theorem optionWords_eq (l : Lease) (hl : s.lease n = l) : s.optionWords n =
    [l.grace, if l.graceAction = .park then 1 else 0, l.urgency.setWidth 16, if l.boundaryNotices then 1 else 0] := by
  rw [State.optionWords, hl]
  cases l.graceAction <;> rfl

/-- A command on a live lease of the master that changes its record alone. -/
theorem event_setLease {word : Word} {bad : Args → Bool} {k : Args → Fin 64 → State → Reply} (hs : s.canTake m w)
    (hbad : bad (s.args m w) = false) (hlease : s.holdsLive m (s.args m w)[0] n) {l : Lease} {items : List Word}
    (words : State → List Word) (hwords : words (s.setLease n l) = items)
    (hk : ∀ x : Window, k (s.args m w) n (s.setWindow m w x) = answer ((s.setLease n l).setWindow m w x) .ok (words (s.setLease n l))) :
    event (takeCommand m w word never bad fun a s => s.onLease m a[0] true true fun n => k a n s) s
      = .next ((s.setLease n l).finish m w word .ok items) :=
  event_takeCommand_eq_finish word hs (.inl rfl) hbad rfl fun x =>
    hwords ▸ (onLease_of_holdsLive (s := s.setWindow m w x) hlease _).trans (hk x)

/-- Settles O17. -/
theorem setTermAndSetOptions : Obligations.SetTermAndSetOptions := by
  unfold Obligations.SetTermAndSetOptions
  intro m w n s hs hlease
  dsimp only
  refine ⟨?_, fun hbad => ?_⟩
  · exact event_setLease hs rfl hlease (fun t => t.termWords n) (termWords_of_staged (s.lease n) _ (setLease_lease_same _ _ _))
      fun x => rfl
  · refine event_setLease hs ((setOptionsBad_eq_badAtPort _).trans hbad) hlease (fun t => t.optionWords n)
      (optionWords_eq _ (setLease_lease_same _ _ _)) fun x => ?_
    rw [← withOptions_eq hbad]
    rfl

/-! ### CLAIM (R50, R52) -/

theorem bit_of_le_one {v : BitVec 2} (h : ¬ 1 < v.toNat) : v.setWidth 16 = if v.getLsbD 0 then 1 else (0 : Word) := by
  revert v
  decide

/-- R175: past the port, the claim's fields are those of the argument words. -/
theorem claimOf_eq {a : Args} (h : badAtPort 0x10 a = false) : claimOf m w a =
    { master := m, window := w, channels := a[0], base := claimBase a, term := claimTerm a, grace := a[3]
      graceAction := if a[4].getLsbD 2 then .park else .hold, urgency := a[4].extractLsb' 4 3
      boundaryNotices := a[4].getLsbD 8, line := claimLine a, deadline := none, arrival := 0 } := by
  have hbad : ¬ (1 < (a[4].extractLsb' 0 2).toNat ∨ 1 < (a[4].extractLsb' 2 2).toNat ∨ 7 < (a[4].extractLsb' 4 4).toNat
      ∨ 1 < (a[4].extractLsb' 8 2).toNat) := of_decide_eq_false h
  simp only [not_or] at hbad
  obtain ⟨-, haction, -, hboundary⟩ := hbad
  have hpark : (graceActionOfWord (claimGraceActionCode a)).getD .hold = if a[4].getLsbD 2 then .park else .hold := by
    have hbit : (a[4].extractLsb' 2 2).getLsbD 0 = a[4].getLsbD 2 := by simp
    rw [claimGraceActionCode, bit_of_le_one haction, hbit]
    cases a[4].getLsbD 2 <;> rfl
  have hnotices : (onOffOfWord (claimBoundaryCode a)).getD false = a[4].getLsbD 8 := by
    have hbit : (a[4].extractLsb' 8 2).getLsbD 0 = a[4].getLsbD 8 := by simp
    rw [claimBoundaryCode, bit_of_le_one hboundary, hbit]
    cases a[4].getLsbD 8 <;> rfl
  have hurgency : urgencyOfWord (claimUrgencyCode a) = a[4].extractLsb' 4 3 := by
    unfold urgencyOfWord claimUrgencyCode
    ext i hi
    simp only [BitVec.getElem_extractLsb', BitVec.getLsbD_setWidth, BitVec.getLsbD_extractLsb', Nat.zero_add]
    simp [show i < 16 by omega, show i < 4 by omega]
  have hbase : (baseOfCode (claimBaseCode a)).getD .a = claimBase a := claimOf_base m w a h
  rw [claimOf, hpark, hnotices, hurgency, hbase]
  rfl

/-- R12: the record that the grant of a claim sets. -/
theorem granted_eq_claimRecord {a : Args} (h : badAtPort 0x10 a = false) :
    (claimOf m w a).granted (s.lease n) (s.now (claimOf m w a).base) = s.claimRecord m a n := by
  rw [claimOf_eq h]
  rfl

/-- R50: what a CLAIM that is grantable now is answered. -/
theorem claimOwner_of_grantable {a : Args} (hpass : s.claimPasses m a) (hn : s.grantableNow (claimOf m w a) = some n) :
    claimOwner m w a s = answer (s.grant (claimOf m w a) n) .ok ((s.grant (claimOf m w a) n).grantWords n) := by
  simp only [claimOwner, claimRefusal_of_claimPasses s m w a hpass, hn]

theorem grantableNow_of_free {a : Args} (hfree : s.claimChannelsFree a) (hn : s.isLowestFree n) :
    s.grantableNow (claimOf m w a) = some n := by
  have hidle : s.allIdle (claimOf m w a).channels = true := (allIdle_iff s _).2 fun c hc => (hfree c hc).1
  have hunreserved : lowestIn (claimOf m w a).channels s.isReserved = none :=
    (lowestIn_eq_none_iff_forall_not (isReserved_iff s)).2 fun c hc => (hfree c hc).2
  rw [State.grantableNow, hidle, hunreserved]
  exact (lowestFree_eq_some s).2 hn

/-- R11 to R13: what a grant leaves. -/
theorem grant_claimOf_eq {a : Args} (h : badAtPort 0x10 a = false) : s.grant (claimOf m w a) n =
    (let now := s.now (claimBase a)
     let t := s.setLease n (s.claimRecord m a n)
     let queue := insertByDistance (fun k => ((t.lease k).expiry - now).toInt) n (s.expiryQueue (claimBase a))
     let u := (t.setExpiryQueue (claimBase a) queue).mapChannels fun c ch => if a[0].getLsbD c.val then ch.taken n else ch
     let v := { u with lines := tabulate fun k => if claimLine a = some k then { s.line k with bound := some n } else s.line k }
     v.recount m fun count => count + 1) := by
  rw [State.grant, granted_eq_claimRecord h, claimOf_base m w a h, claimOf_channels, claimOf_line, claimOf_master, bindLine_eq]
  simp only [State.enterExpiry, State.governChannels, enterActive_eq_taken, mapChannels_line, setExpiryQueue_line, setLease_line,
    setLease_now, setLease_expiryQueue]
  rfl

theorem grant_claimOf_words {a : Args} (h : badAtPort 0x10 a = false) : (s.grant (claimOf m w a) n).grantWords n =
    [handleWord n (s.claimRecord m a n).generation, (s.claimRecord m a n).expiry.extractLsb' 0 16,
      (s.claimRecord m a n).expiry.extractLsb' 16 16] := by
  rw [State.grantWords, State.handle, grant_lease, if_pos rfl, granted_eq_claimRecord h]
  rfl

/-- Settles O11. -/
theorem grantableClaimIsGrantedAtOnce : Obligations.GrantableClaimIsGrantedAtOnce := by
  unfold Obligations.GrantableClaimIsGrantedAtOnce
  intro m w n s hs hpass hfree hn
  obtain ⟨hbad, -⟩ := id hpass
  have hgrantable : s.grantableNow (claimOf m w (s.args m w)) = some n := grantableNow_of_free hfree hn
  refine (event_takeCommand_eq_finish 0x10 hs (.inl rfl) ((claimBad_eq_badAtPort _).trans hbad)
    (t := s.grant (claimOf m w (s.args m w)) n) (code := .ok) (items := (s.grant (claimOf m w (s.args m w)) n).grantWords n)
    (by simp) fun x => ?_).trans ?_
  · rw [claimOwner_of_grantable (s := s.setWindow m w x) hpass hgrantable, grant_setWindow]
    rfl
  · rw [grant_claimOf_words hbad, grant_claimOf_eq hbad]

/-- Settles O12. -/
theorem waitingClaimJoinsTheQueue : Obligations.WaitingClaimJoinsTheQueue := by
  unfold Obligations.WaitingClaimJoinsTheQueue
  intro m w s hs hpass hwait hlimit hplace
  obtain ⟨hbad, -⟩ := id hpass
  obtain ⟨hsettled, hfree, henabled⟩ := id hs
  have hport : portCheck s m (never (s.args m w)) (claimBad (s.args m w)) = none :=
    (portCheck_eq_none s m _ _).2 ⟨henabled, .inl rfl, (claimBad_eq_badAtPort _).trans hbad⟩
  have howner (x : Window) : claimOwner m w (s.args m w) (s.setWindow m w x)
      = ((s.setWindow m w x).joinQueue (claimOf m w (s.args m w)) (claimWaitLimit (s.args m w)), none) := by
    simp only [claimOwner, claimRefusal_setWindow, claimRefusal_of_claimPasses s m w _ hpass, grantableNow_setWindow,
      (grantableNow_eq_none_iff s m w _).2 hwait, hlimit, if_false]
    exact if_neg (Nat.not_le.2 hplace)
  rw [exec_claim, event_of_settled _ _ hsettled, claimCommand, takeCommand_waits s m w _ _ _ _ hfree hport (howner _),
    claimOf_eq hbad]
  rfl

/-! ### The edges of a renew line (R80, R81) -/

/-- R80: an edge at the pin, by whether the line's setting detects it. -/
theorem edgeArrives_eq (s : State) (k : Fin 8) (rising : Bool) : s.edgeArrives k rising =
    s.setLine k { s.line k with
      level := rising
      captured := if (s.line k).edge.detects rising
        then (s.line k).captured ++ [{ stampA := s.baseA.counter, stampB := s.baseB.counter }] else (s.line k).captured } := rfl

theorem edgeArrives_of_not_detected {k : Fin 8} {rising : Bool} (h : (s.line k).edge.detects rising = false) :
    s.edgeArrives k rising = s.setLine k { s.line k with level := rising } := by
  simp [edgeArrives_eq, h]

/-- R81: the oldest captured edge is taken on a line that is not bound. -/
theorem edgeTaken_of_unbound {k : Fin 8} {x : Capture} {rest : List Capture} (h : (s.line k).captured = x :: rest)
    (hbound : (s.line k).bound = none) : s.edgeTaken k = s.setLine k { s.line k with captured := rest, lastEdge := x.stampA } := by
  simp only [State.edgeTaken, h, hbound]

/-- R81: the oldest captured edge renews the lease of a bound line. -/
theorem edgeTaken_of_bound {k : Fin 8} {x : Capture} {rest : List Capture} (h : (s.line k).captured = x :: rest)
    (hbound : (s.line k).bound = some n) (hlive : (s.lease n).live = true) : s.edgeTaken k =
      (s.setLine k { s.line k with captured := rest, lastEdge := x.stampA }).renewLease n (x.stamp (s.lease n).base) := by
  simp only [State.edgeTaken, h, hbound, hlive, if_true]

theorem exec_renewLineEdge_of_settled (hs : s.settled) (k : Fin 8) (rising : Bool) (phase : EdgePhase) :
    exec (.renewLineEdge k rising phase) s = .next (s.lineEdge k rising phase) := by
  rw [exec_renewLineEdge, if_neg (by simp [hs.1]), event_of_settled _ _ hs]

/-- What an edge at the pin changes has no part in a tick. -/
theorem settled_setLine (hs : s.settled) (k : Fin 8) (x : Line) : (s.setLine k x).settled := hs

/-- Settles O16. -/
theorem detectedEdgeRenewsTheBoundLease : Obligations.DetectedEdgeRenewsTheBoundLease := by
  unfold Obligations.DetectedEdgeRenewsTheBoundLease
  intro k rising s hs
  simp only [exec_renewLineEdge_of_settled hs]
  refine ⟨⟨fun hnot phase hphase => ?_, fun hdetected => ?_, fun hdetected t ht => ?_⟩, fun hnone => ?_, fun x rest hcaptured => ⟨?_, ?_⟩⟩
  · replace hnot : (s.line k).edge.detects rising = false := hnot
    refine congrArg _ ?_
    cases phase with
    | arrives => exact edgeArrives_of_not_detected hnot
    | isTaken => exact absurd rfl hphase
    | arrivesAndIsTaken =>
      rw [State.lineEdge, if_neg (by simp [hnot])]
      exact edgeArrives_of_not_detected hnot
  · replace hdetected : (s.line k).edge.detects rising = true := hdetected
    rw [State.lineEdge, edgeArrives_eq, if_pos hdetected]
  · replace hdetected : (s.line k).edge.detects rising = true := hdetected
    cases ht
    have harrived : (s.lineEdge k rising .arrives).settled := settled_setLine hs k _
    rw [exec_renewLineEdge_of_settled harrived]
    exact congrArg _ (if_pos hdetected)
  · refine congrArg _ ?_
    rw [State.lineEdge, State.edgeTaken, hnone]
  · intro hunbound
    rw [State.lineEdge, edgeTaken_of_unbound hcaptured hunbound]
  · intro n hbound hlive
    rw [State.lineEdge, edgeTaken_of_bound hcaptured hbound hlive, renewLease_eq_oneTermAhead]
    cases (s.lease n).base <;> rfl

end Sys2Proof.Machine
end

section
/-! PROOFS. ADD_CHANNELS and DROP_CHANNELS (O18), RELEASE (O19), RETIRE, PURGE and REVOKE (O20): what each leaves, and when a scan
follows. -/

namespace Sys2Proof.Machine

variable {s t : State} {m k : Fin 8} {w : Fin 2} {n : Fin 64}

/-! ### Handle checks and windows -/

/-- R7: a handle that names a record passes the checks that its command makes. -/
theorem onLease_of_checks {h : Word} {holder lapsed : Bool} (hnames : s.names h n) (hholder : holder = true → (s.lease n).holder = some m)
    (hlapsed : lapsed = true → (s.lease n).state ≠ .lapsed) (reply : Fin 64 → Reply) : s.onLease m h holder lapsed reply = reply n := by
  obtain ⟨rfl, hgeneration, hfree⟩ := hnames
  exact onLease_of_pass s m reply ((checkHandle_eq_none s m h holder lapsed).2 ⟨hfree, hgeneration.symm, hholder, hlapsed⟩)

theorem freedFrom_setWindow (x : Window) (k : Fin 8) : (s.setWindow m w x).freedFrom n k = (s.freedFrom n k).setWindow m w x := by
  by_cases hlive : (s.lease n).state = .held ∨ (s.lease n).state = .grace
  · have hlive' : ((s.setWindow m w x).lease n).state = .held ∨ ((s.setWindow m w x).lease n).state = .grace := hlive
    simp only [State.freedFrom, if_pos hlive, if_pos hlive']
    rfl
  · have hlive' : ¬ (((s.setWindow m w x).lease n).state = .held ∨ ((s.setWindow m w x).lease n).state = .grace) := hlive
    simp only [State.freedFrom, if_neg hlive, if_neg hlive']
    rfl

theorem freedFrom_window (v : Fin 2) (j : Fin 8) : (s.freedFrom n k).window j v = s.window j v := by
  unfold State.freedFrom
  dsimp only
  split_ifs <;> rfl

/-- A set of channels is known by its members. -/
theorem channelSet_ext {x y : ChannelSet} (h : ∀ c : Fin 16, x.getLsbD c.val = true ↔ y.getLsbD c.val = true) : x = y :=
  BitVec.eq_of_getLsbD_eq fun i hi => Bool.eq_iff_iff.2 (h ⟨i, hi⟩)

/-- R86: the channels of a set that drain. -/
theorem drainingOf_eq {set drained : ChannelSet}
    (h : isSetOf drained fun c => set.getLsbD c.val = true ∧ (s.channel c).wouldDrain) : s.drainingOf set = drained := by
  refine channelSet_ext fun c => ?_
  rw [drainingOf_getLsbD, Bool.and_eq_true, drains_iff_wouldDrain]
  exact (h c).symm

/-! ### When a scan follows -/

/-- R118: a governed channel goes IDLE unless it drains. -/
theorem afterRelease_idle_iff {ch : Channel} (h : ch.state = .active ∨ ch.state = .parked) :
    ch.afterRelease.state = .idle ↔ ¬ ch.wouldDrain := by
  unfold Channel.afterRelease Channel.wouldDrain
  obtain h | h := h
  · cases hmode : ch.wave.mode <;> cases hstyle : ch.config.releaseStyle <;> simp [h, Channel.idled]
  · simp [h, Channel.idled]

/-- R54: where governed channels are released and nothing else can let a claim in, a scan follows exactly when one goes IDLE. -/
theorem scanTriggered_of_release {set : ChannelSet}
    (hgoverned : ∀ c : Fin 16, set.getLsbD c.val = true → (s.channel c).state = .active ∨ (s.channel c).state = .parked)
    (hchannel : ∀ c, t.channel c = if set.getLsbD c.val then (s.channel c).afterRelease else s.channel c)
    (hlease : ∀ n, (t.lease n).state = .free → (s.lease n).state = .free) (hmaster : ∀ m, t.master m = s.master m)
    (hclaims : t.claims = s.claims) :
    scanTriggered s t = true ↔ ∃ c : Fin 16, set.getLsbD c.val = true ∧ ¬ (s.channel c).wouldDrain := by
  have hidle (c : Fin 16) : ((s.channel c).state ≠ .idle ∧ (t.channel c).state = .idle)
      ↔ (set.getLsbD c.val = true ∧ ¬ (s.channel c).wouldDrain) := by
    rw [hchannel]
    split_ifs with hc
    · have hstate := hgoverned c hc
      have hnot : (s.channel c).state ≠ .idle := by rintro h; simp [h] at hstate
      rw [afterRelease_idle_iff hstate]
      exact and_congr_left fun _ => iff_of_true hnot hc
    · simp [hc, -BitVec.getLsbD_eq_getElem]
  have hfreed : ¬ ∃ n, (s.lease n).state ≠ .free ∧ (t.lease n).state = .free := fun ⟨n, hs, ht⟩ => hs (hlease n ht)
  rw [scanTriggered_iff]
  simp only [hidle, hfreed, hmaster, hclaims, lt_irrefl, false_or, or_false, exists_false, exists_const]
  simp

/-- R54: the end of a record is a scan trigger. -/
theorem closeEvent_of_freed (hs : (s.lease n).state ≠ .free) (ht : (t.lease n).state = .free) : closeEvent s t = t.scan :=
  if_pos ((scanTriggered_iff s t).2 (.inr (.inl ⟨n, hs, ht⟩)))

theorem freedFrom_free : ((s.freedFrom n k).lease n).state = .free := by
  unfold State.freedFrom
  simp [State.recount, Lease.blank]

/-! ### ADD_CHANNELS and DROP_CHANNELS (R74 to R77) -/

theorem addRefusal_setWindow (x : Window) (set : ChannelSet) : (s.setWindow m w x).addRefusal m set = s.addRefusal m set := rfl

/-- R75: channels that are permitted, IDLE and not reserved are taken. -/
theorem addRefusal_eq_none {set : ChannelSet} (hset : set ≠ 0)
    (h : ∀ c : Fin 16, set.getLsbD c.val = true → ¬ s.forbids m c ∧ (s.channel c).state = .idle ∧ ¬ s.reservedChannel c) :
    s.addRefusal m set = none := by
  have hforbidden : s.lowestForbidden set m = none := (lowestForbidden_eq_none s m).2 fun c hc => (h c hc).1
  have hown : lowestIn set (s.ownGoverned m) = none :=
    (lowestIn_ownGoverned_eq_none s m).2 fun c hc n hgoverned => by
      have hstate := hgoverned.1
      rw [(h c hc).2.1] at hstate
      simp at hstate
  have hbusy : (lowestIn set fun c => (s.channel c).state != .idle) = none :=
    lowestIn_eq_none.2 fun c hc => by simp [(h c hc).2.1]
  have hreserved : lowestIn set s.isReserved = none :=
    (lowestIn_eq_none_iff_forall_not (isReserved_iff s)).2 fun c hc => (h c hc).2.2
  simp only [State.addRefusal, if_neg hset, hforbidden, hown, hbusy, hreserved, Option.map_none]

/-- R77: some but not all of the lease's channels may be dropped. -/
theorem dropRefusal_of_some {own set : ChannelSet} (hset : set ≠ 0) (hsub : set &&& own = set) (hrest : own &&& ~~~set ≠ 0) :
    dropRefusal own set = none := by
  have hinside : (lowestIn set fun c => !own.getLsbD c.val) = none := lowestIn_eq_none.2 fun c hc => by
    rw [← hsub, BitVec.getLsbD_and, Bool.and_eq_true] at hc
    simpa [-BitVec.getLsbD_eq_getElem] using hc.2
  simp only [dropRefusal, if_neg hset, hinside, if_neg hrest]

theorem releaseChannels_eq (set : ChannelSet) :
    s.releaseChannels set = s.mapChannels fun c ch => if set.getLsbD c.val then ch.afterRelease else ch := by
  simp only [State.releaseChannels, release_eq_afterRelease]

/-- Settles O18. -/
theorem addAndDropChannels : Obligations.AddAndDropChannels := by
  unfold Obligations.AddAndDropChannels
  intro m w n s hs hlease
  dsimp only
  refine ⟨fun hset hfree => ?_, fun hset hsub hrest hgoverned => ?_⟩
  · refine event_takeCommand_eq_finish 0x14 hs (.inl rfl) rfl (t := (s.setLease n { s.lease n with
      channels := (s.lease n).channels ||| (s.args m w)[1] }).mapChannels fun c ch =>
        if (s.args m w)[1].getLsbD c.val then ch.taken n else ch) rfl fun x => ?_
    rw [addChannelsOwner, onLease_of_holdsLive (s := s.setWindow m w x) hlease]
    simp only [addRefusal_setWindow, addRefusal_eq_none hset hfree]
    rfl
  · refine (event_closed_eq_finish (word := 0x15) hs (.inl rfl) rfl (t := (s.setLease n { s.lease n with
      channels := (s.lease n).channels &&& ~~~(s.args m w)[1] }).mapChannels fun c ch =>
        if (s.args m w)[1].getLsbD c.val then ch.afterRelease else ch) rfl fun x => ?_).trans
      (congrArg _ (closeEvent_eq_ite (scanTriggered_of_release hgoverned ?_ ?_ ?_ rfl)))
    · rw [dropChannelsOwner, onLease_of_holdsLive (s := s.setWindow m w x) hlease]
      simp only [setWindow_lease, dropRefusal_of_some hset hsub hrest, releaseChannels_eq]
      rfl
    · intro c
      exact mapChannels_channel _ _ c
    · intro k hk
      have hstate : (((s.setLease n { s.lease n with channels := (s.lease n).channels &&& ~~~(s.args m w)[1] }).lease k).state)
          = (s.lease k).state := by
        rw [setLease_lease]
        split_ifs with h
        · rw [h]
        · rfl
      exact hstate ▸ hk
    · exact fun _ => rfl

/-! ### RELEASE (R86 to R88) -/

/-- R86: what RELEASE of a live lease answers. -/
theorem releaseOwner_of_holdsLive {a : Args} {drained : ChannelSet} (hlease : s.holdsLive m a[0] n)
    (hdrained : isSetOf drained fun c => (s.lease n).channels.getLsbD c.val = true ∧ (s.channel c).wouldDrain) :
    releaseOwner m w a s =
      if a[1] = 1 ∧ drained ≠ 0 then ((s.freedFrom n m).waitForDrain m w (s.lease n).channels drained, none)
      else answer (s.freedFrom n m) .ok [(s.lease n).channels, drained] := by
  rw [releaseOwner, onLease_of_holdsLive hlease]
  simp only [drainingOf_eq hdrained, freeLease_eq_freedFrom s n m hlease.2.2]

/-- Settles O19. -/
theorem releaseFreesTheLease : Obligations.ReleaseFreesTheLease := by
  unfold Obligations.ReleaseFreesTheLease
  intro m w n drained s hs hlease hdrained
  have hstanding : (s.lease n).state ≠ .free := hlease.1.2.2
  refine ⟨fun hnow => ?_, fun hwait hdrains => ?_⟩
  · have hport : badAtPort 0x16 (s.args m w) = false := by
      have htable : badAtPort 0x16 (s.args m w) = decide (1 < (s.args m w)[1].toNat) := rfl
      obtain h | ⟨h, -⟩ := hnow <;> rw [htable, h] <;> rfl
    refine (event_closed_eq_finish (word := 0x16) hs (.inl rfl) ((releaseBad_eq_badAtPort _).trans hport) (t := s.freedFrom n m)
      (freedFrom_window w m) fun x => ?_).trans (congrArg _ (closeEvent_of_freed (n := n) hstanding (freedFrom_free (k := m))))
    rw [releaseOwner_of_holdsLive (s := s.setWindow m w x) hlease hdrained, if_neg, freedFrom_setWindow]
    · rfl
    · rintro ⟨h, hne⟩
      obtain h0 | ⟨-, h0⟩ := hnow
      · rw [h0] at h
        exact absurd h (by decide)
      · exact hne h0
  · obtain ⟨hsettled, hfree, henabled⟩ := hs
    have hport : portCheck s m (never (s.args m w)) (releaseBad (s.args m w)) = none :=
      (portCheck_eq_none s m _ _).2 ⟨henabled, .inl rfl, by rw [releaseBad, hwait]; rfl⟩
    have howner (x : Window) : releaseOwner m w (s.args m w) (s.setWindow m w x)
        = (((s.freedFrom n m).setWindow m w x).waitForDrain m w (s.lease n).channels drained, none) := by
      rw [releaseOwner_of_holdsLive (s := s.setWindow m w x) hlease hdrained, if_pos ⟨hwait, hdrains⟩, freedFrom_setWindow]
      rfl
    rw [exec_release, event_of_settled _ _ hsettled, releaseCommand, takeCommand_waits s m w _ _ _ _ hfree hport (howner _)]
    refine congrArg _ ?_
    rw [State.waitForDrain, setWindow_window_same, setWindow_setWindow]
    exact closeEvent_of_freed (n := n) hstanding (freedFrom_free (k := m))

/-! ### RETIRE, PURGE and REVOKE (R90, R93, R94) -/

theorem live_eq_false_of_lapsed {l : Lease} (h : l.state = .lapsed) : l.live = false := by simp [Lease.live, h]

/-- A command that frees a record and reports its ending. -/
theorem event_freed {word : Word} {reserved : Args → Bool} {owner : Args → State → Reply} {items : List Word} (hs : s.canTake m w)
    (hr : reserved (s.args m w) = false ∨ m = 0) (hstanding : (s.lease n).state ≠ .free)
    (howner : ∀ x : Window, owner (s.args m w) (s.setWindow m w x) = answer ((s.setWindow m w x).freedFrom n k) .ok items) :
    event (fun s => closeEvent s (takeCommand m w word reserved never owner s)) s
      = .next (((s.freedFrom n k).finish m w word .ok items).scan) :=
  (event_closed_eq_finish hs hr rfl (freedFrom_window w m) fun x => by rw [howner, freedFrom_setWindow]).trans
    (congrArg _ (closeEvent_of_freed (n := n) hstanding (freedFrom_free (k := k))))

theorem lapsedBy_setWindow (x : Window) (why : EndReason) :
    (s.setWindow m w x).lapsedBy n why = (s.lapsedBy n why).setWindow m w x := rfl

/-- R54: a lapse brings a scan where a channel goes IDLE. -/
theorem scanTriggered_lapsedBy (why : EndReason) (y : Window) (hlive : (s.lease n).state ≠ .free)
    (hgoverned : ∀ c : Fin 16, (s.lease n).channels.getLsbD c.val = true → (s.channel c).state = .active ∨ (s.channel c).state = .parked) :
    scanTriggered s ((s.lapsedBy n why).setWindow m w y) = true ↔
      ∃ c : Fin 16, (s.lease n).channels.getLsbD c.val = true ∧ ¬ (s.channel c).wouldDrain := by
  refine scanTriggered_of_release hgoverned (fun c => ?_) (fun j hj => ?_) (fun _ => rfl) rfl
  · rw [setWindow_channel, State.lapsedBy, setLease_channel, State.letGo, State.channel]
    simp
  · rw [setWindow_lease, State.lapsedBy, setLease_lease] at hj
    split_ifs at hj
    · cases hj
    · exact hj

/-- Settles O20. -/
theorem retirePurgeAndRevoke : Obligations.RetirePurgeAndRevoke := by
  unfold Obligations.RetirePurgeAndRevoke
  intro m k w n s hs hnames hholder
  dsimp only
  have hstanding : (s.lease n).state ≠ .free := hnames.2.2
  have hword : (s.lease n).holderWord = natWord k.val := by rw [Lease.holderWord, hholder]; rfl
  have hfreed (x : Window) : (s.setWindow m w x).freeLease n = (s.setWindow m w x).freedFrom n k := freeLease_eq_freedFrom _ n k hholder
  have hretire (hk : k = m) (x : Window) : retireOwner m (s.args m w) (s.setWindow m w x) =
      if (s.lease n).live then answer (s.setWindow m w x) .wrongState [(s.lease n).state.code]
      else answer ((s.setWindow m w x).freedFrom n k) .ok (s.lease n).endWords := by
    rw [retireOwner, onLease_of_checks (s := s.setWindow m w x) (holder := true) (lapsed := false) hnames
      (fun _ => hk ▸ hholder) (fun h => nomatch h), hfreed]
    rfl
  have hpurge (x : Window) : purgeOwner m (s.args m w) (s.setWindow m w x) =
      if (s.lease n).live then answer (s.setWindow m w x) .wrongState [(s.lease n).state.code]
      else answer ((s.setWindow m w x).freedFrom n k) .ok (natWord k.val :: (s.lease n).endWords) := by
    rw [purgeOwner, onLease_of_checks (s := s.setWindow m w x) (holder := false) (lapsed := false) hnames
      (fun h => nomatch h) (fun h => nomatch h), hfreed, ← hword]
    rfl
  refine ⟨fun hlapsed => ⟨fun hk => ?_, fun hm => ?_⟩, fun hlive => ?_⟩
  · have hnot : ¬ (s.lease n).live = true := by simp [live_eq_false_of_lapsed hlapsed]
    exact event_freed hs (.inl rfl) hstanding fun x => (hretire hk x).trans (if_neg hnot)
  · have hnot : ¬ (s.lease n).live = true := by simp [live_eq_false_of_lapsed hlapsed]
    exact event_freed hs (.inr hm) hstanding fun x => (hpurge x).trans (if_neg hnot)
  have hyes : (s.lease n).live = true := (lease_live_iff _).2 hlive
  refine ⟨fun hk => ?_, fun hm => ?_, fun hm hgoverned drained hdrained => ?_⟩
  · exact event_closed_eq_finish_self hs (.inl rfl) rfl fun x => (hretire hk x).trans (if_pos hyes)
  · exact event_closed_eq_finish_self hs (.inr hm) rfl fun x => (hpurge x).trans (if_pos hyes)
  · have hnotLapsed : (s.lease n).state ≠ .lapsed := by rintro h; simp [h] at hlive
    refine (event_closed_eq_finish (word := 0x3D) hs (.inr hm) rfl (t := s.lapsedBy n .revoked) rfl fun x => ?_).trans
      (congrArg _ (closeEvent_eq_ite (scanTriggered_lapsedBy _ _ hstanding hgoverned)))
    rw [revokeOwner, onLease_of_checks (s := s.setWindow m w x) (holder := false) (lapsed := true) hnames
      (fun h => nomatch h) (fun _ => hnotLapsed)]
    simp only [lapse_eq_lapsedBy, lapsedBy_setWindow, setWindow_lease, hword]
    rw [drainingOf_eq (s := s.setWindow m w x) hdrained]

end Sys2Proof.Machine
end

section
/-! PROOFS. OFFER and WITHDRAW (O21), ACCEPT and DECLINE (O22). -/

namespace Sys2Proof.Machine

variable {s t : State} {m k target : Fin 8} {w : Fin 2} {n : Fin 64} {a : Args}

/-! ### Offers (R102 to R105) -/

/-- R104: the offer lists once lease `n` is offered to a master. -/
def State.offersTo (s : State) (n : Fin 64) (target : Fin 8) : Vector (List (Fin 64)) 8 :=
  tabulate fun k => (if (s.lease n).offerTarget = some k then (s.offerList k).filter (· != n) else s.offerList k)
    ++ if k = target then [n] else []

theorem makeOffer_eq : s.makeOffer n target =
    { s with offers := s.offersTo n target }.setLease n { s.lease n with offerTarget := some target } := by
  have hlist (j : Fin 8) : (s.makeOffer n target).offerList j = (s.offersTo n target)[j] := by
    rw [makeOffer_offerList]
    simp [State.offersTo]
  rw [State.makeOffer, leaveOffers_eq] at hlist ⊢
  exact State.ext_records (fun _ _ => rfl) (fun _ => rfl) (fun _ => rfl) hlist (fun _ => rfl) (fun _ => rfl)
    rfl rfl rfl rfl rfl rfl rfl rfl rfl rfl rfl

theorem makeOffer_setWindow (x : Window) : (s.setWindow m w x).makeOffer n target = (s.makeOffer n target).setWindow m w x := by
  rw [makeOffer_eq, makeOffer_eq]
  rfl

/-- R105, R108: the end of an offer. -/
theorem endOffer_eq : s.endOffer n =
    { s with offers := tabulate fun k => if (s.lease n).offerTarget = some k then (s.offerList k).filter (· != n) else s.offerList k
      }.setLease n { s.lease n with offerTarget := none } := by
  rw [State.endOffer, leaveOffers_eq]

theorem offerRefusal_setWindow (x : Window) : (s.setWindow m w x).offerRefusal n target = s.offerRefusal n target := rfl

/-- R103: an offer to another enabled master, permitted on every channel, with a place for it. -/
theorem offerRefusal_eq_none (hholder : (s.lease n).holder ≠ some target) (henabled : (s.master target).enabled = true)
    (hpermitted : ∀ c : Fin 16, (s.lease n).channels.getLsbD c.val = true → ¬ s.forbids target c)
    (hplace : (s.offerList target).length < 4 ∨ n ∈ s.offerList target) : s.offerRefusal n target = none := by
  have hfull : ¬ (Config.offerCapacity ≤ (s.offerList target).length ∧ n ∉ s.offerList target) := by
    rintro ⟨hlen, hnot⟩
    exact hplace.elim (fun h => absurd h (Nat.not_lt.2 hlen)) hnot
  have henable : ¬ (s.master target).enabled = false := by simp [henabled]
  simp only [State.offerRefusal, if_neg hholder, if_neg henable, (lowestForbidden_eq_none s target).2 hpermitted, if_neg hfull]

theorem offerBad_eq_false (h : a[1] = natWord target.val) : decide (7 < a[1].toNat) = false := by
  have := target.isLt
  rw [h, natWord, BitVec.toNat_ofNat, decide_eq_false_iff_not]
  omega

/-- Settles O21. -/
theorem offerAndWithdraw : Obligations.OfferAndWithdraw := by
  unfold Obligations.OfferAndWithdraw
  intro m w n s hs hlease
  refine ⟨fun target htarget hne henabled hpermitted hplace => ?_, ?_⟩
  · have hholder : (s.lease n).holder ≠ some target := fun h => hne (Option.some.inj (h.symm.trans hlease.2.2))
    refine (event_takeCommand_eq_finish 0x18 hs (.inl rfl) (offerBad_eq_false htarget) (t := s.makeOffer n target) (code := .ok)
      (items := [natWord ((s.makeOffer n target).offerList target).length, presentEight (s.lease n).offerTarget])
      (by simp) fun x => ?_).trans ?_
    · rw [offerOwner, onLease_of_holdsLive (s := s.setWindow m w x) hlease, htarget, eightOfWord_natWord]
      simp only [offerRefusal_setWindow, offerRefusal_eq_none hholder henabled hpermitted hplace, makeOffer_setWindow]
      rfl
    · rw [makeOffer_eq, State.offersTo]
      cases (s.lease n).offerTarget <;> rfl
  · refine (event_takeCommand_eq_finish 0x19 hs (.inl rfl) rfl (t := s.endOffer n) (code := .ok)
      (items := [presentEight (s.lease n).offerTarget]) (by simp) fun x => ?_).trans ?_
    · rw [withdrawOwner, onLease_of_holdsLive (s := s.setWindow m w x) hlease, endOffer_eq, endOffer_eq]
      rfl
    · rw [endOffer_eq]
      cases (s.lease n).offerTarget <;> rfl

/-! ### ACCEPT and DECLINE (R106 to R108) -/

theorem acceptRefusal_setWindow (x : Window) (h : Word) : (s.setWindow m w x).acceptRefusal m h = s.acceptRefusal m h := rfl

theorem noOffer_of_standing {h : Word} (hnames : s.names h n) (htarget : (s.lease n).offerTarget = some m) : s.noOffer m h = false := by
  obtain ⟨rfl, hrest⟩ := hnames
  exact noOffer_eq_false.2 ⟨⟨rfl, hrest⟩, htarget⟩

/-- R107: the offer stands, and its target may take the lease. -/
theorem acceptRefusal_of_admitted {h : Word} (hnames : s.names h n) (htarget : (s.lease n).offerTarget = some m)
    (hpermitted : ∀ c : Fin 16, (s.lease n).channels.getLsbD c.val = true → ¬ s.forbids m c)
    (hquota : (s.master m).count < (s.master m).quota) : s.acceptRefusal m h = none := by
  have hoffer := noOffer_of_standing hnames htarget
  obtain ⟨rfl, -⟩ := hnames
  simp [State.acceptRefusal, hoffer, (lowestForbidden_eq_none s m).2 hpermitted, hquota]

/-- R107: the lease under its new holder, and the two counts. -/
theorem acceptLease_eq (hholder : (s.lease n).holder = some k) : s.acceptLease n m =
    (((s.setOfferList m ((s.offerList m).filter (· != n))).setLease n
      { s.lease n with
        holder := some m, offerTarget := none, notices := 0b010000, noticeCount := (s.lease n).noticeCount + 1 }).recount k
      fun count => count - 1).recount m fun count => count + 1 := by
  rw [State.acceptLease, hholder]
  rfl

theorem acceptLease_words : (s.acceptLease n m).acceptWords n =
    [handleWord n (s.lease n).generation, (s.lease n).state.code, (s.lease n).channels, baseCode (s.lease n).base,
      (s.lease n).expiry.extractLsb' 0 16, (s.lease n).expiry.extractLsb' 16 16, (s.lease n).noticeCount + 1] := by
  simp only [State.acceptWords, State.handle, acceptLease_lease, if_pos, Lease.acceptedBy]
  rfl

/-- R107: the fall of the former holder's count is a scan trigger. -/
theorem closeEvent_of_count_lt (h : (t.master k).count < (s.master k).count) : closeEvent s t = t.scan :=
  if_pos ((scanTriggered_iff s t).2 (.inr (.inr (.inl ⟨k, .inl h⟩))))

/-- R108: the end of an offer to `m`. -/
theorem endOffer_of_target (htarget : (s.lease n).offerTarget = some m) :
    s.endOffer n = (s.setOfferList m ((s.offerList m).filter (· != n))).setLease n { s.lease n with offerTarget := none } := by
  rw [State.endOffer, htarget]
  rfl

/-- Settles O22. -/
theorem acceptAndDecline : Obligations.AcceptAndDecline := by
  unfold Obligations.AcceptAndDecline
  intro m k w n s hs hnames htarget hholder hk
  refine ⟨fun hpermitted hquota hcount => ?_, ?_⟩
  · refine (event_closed_eq_finish (word := 0x1A) hs (.inl rfl) rfl (t := s.acceptLease n m) (code := .ok)
      (items := (s.acceptLease n m).acceptWords n) (by simp) fun x => ?_).trans ?_
    · rw [acceptOwner, acceptRefusal_setWindow, acceptRefusal_of_admitted hnames htarget hpermitted hquota]
      simp only [hnames.1, acceptLease_eq (s := s.setWindow m w x) (m := m) hholder, acceptLease_eq (m := m) hholder]
      rfl
    · have hfalls : (((s.acceptLease n m).finish m w 0x1A .ok ((s.acceptLease n m).acceptWords n)).master k).count < (s.master k).count := by
        rw [State.finish, setWindow_master, acceptLease_master]
        simp [hholder, hk, hcount]
      rw [closeEvent_of_count_lt hfalls, acceptLease_words, acceptLease_eq hholder]
  · refine event_takeCommand_eq_finish 0x1B hs (.inl rfl) rfl (t := (s.setOfferList m ((s.offerList m).filter (· != n))).setLease n
      { s.lease n with
        offerTarget := none, notices := (s.lease n).notices ||| 0b100000, noticeCount := (s.lease n).noticeCount + 1 }) rfl fun x => ?_
    have hoffer : (s.setWindow m w x).noOffer m (s.args m w)[0] = false := noOffer_of_standing (s := s.setWindow m w x) hnames htarget
    rw [declineOwner, if_neg (by simp [hoffer]), hnames.1, endOffer_of_target (s := s.setWindow m w x) htarget]
    simp only [State.raiseNotice, setLease_lease_same, setLease_setLease]
    rfl

end Sys2Proof.Machine
end

section
/-! PROOFS. The refusals of ADD_CHANNELS, DROP_CHANNELS, OFFER, ACCEPT and DECLINE in their orders (O23). -/

namespace Sys2Proof.Machine

variable {s t : State} {m k target : Fin 8} {w : Fin 2} {n : Fin 64} {c : Fin 16} {set : ChannelSet} {code : ResultCode} {items : List Word}

/-! ### The orders of the checks -/

/-- R74: the five checks of ADD_CHANNELS in their order. -/
theorem addRefusal_of_empty (h : set = 0) : s.addRefusal m set = some (.badArgument, []) := by rw [State.addRefusal, if_pos h]

theorem addRefusal_of_forbidden (hset : set ≠ 0) (h : isLowest set (s.forbids m) c) :
    s.addRefusal m set = some (.notPermitted, [natWord c.val]) := by
  simp only [State.addRefusal, if_neg hset, (lowestForbidden_eq_some s m).2 h]

section Permitted
variable (hset : set ≠ 0) (hpermitted : ∀ d : Fin 16, set.getLsbD d.val = true → ¬ s.forbids m d)
include hset hpermitted

theorem addRefusal_of_governed (h : isLowest set (fun d => ∃ j : Fin 64, s.governedBy m d j) c) (hn : s.governedBy m c n) :
    s.addRefusal m set = some (.ownConflict, [natWord c.val, s.handle n]) := by
  simp only [State.addRefusal, if_neg hset, (lowestForbidden_eq_none s m).2 hpermitted, (lowestIn_ownGoverned_eq_some s m).2 h,
    governor_of_governedBy s m hn]

variable (hother : ∀ d : Fin 16, set.getLsbD d.val = true → ∀ j : Fin 64, ¬ s.governedBy m d j)
include hother

theorem addRefusal_of_busy (h : isLowest set (fun d => (s.channel d).state ≠ .idle) c) :
    s.addRefusal m set = some (.channelBusy, [natWord c.val, (s.channel c).state.code]) := by
  have hbusy : lowestIn set (fun d => (s.channel d).state != .idle) = some c :=
    (lowestIn_eq_some_iff_isLowest fun _ => bne_iff_ne).2 h
  simp only [State.addRefusal, if_neg hset, (lowestForbidden_eq_none s m).2 hpermitted, (lowestIn_ownGoverned_eq_none s m).2 hother, hbusy]

theorem addRefusal_of_reserved (hidle : ∀ d : Fin 16, set.getLsbD d.val = true → (s.channel d).state = .idle)
    (h : isLowest set s.reservedChannel c) :
    s.addRefusal m set = some (.channelReserved, [natWord c.val, natWord (s.claims.countP fun q => q.channels.getLsbD c.val)]) := by
  have hfree : lowestIn set (fun d => (s.channel d).state != .idle) = none :=
    lowestIn_eq_none.2 fun d hd => by simp [hidle d hd]
  have hreserved : lowestIn set s.isReserved = some c := (lowestIn_eq_some_iff_isLowest (isReserved_iff s)).2 h
  simp only [State.addRefusal, if_neg hset, (lowestForbidden_eq_none s m).2 hpermitted, (lowestIn_ownGoverned_eq_none s m).2 hother, hfree,
    hreserved, Option.map_some]
  rfl

end Permitted

/-- R76: the three checks of DROP_CHANNELS in their order. -/
theorem dropRefusal_of_empty {own : ChannelSet} (h : set = 0) : dropRefusal own set = some (.badArgument, []) := by
  rw [dropRefusal, if_pos h]

theorem dropRefusal_of_outside {own : ChannelSet} (hset : set ≠ 0) (h : isLowest set (fun d => own.getLsbD d.val = false) c) :
    dropRefusal own set = some (.wrongState, [natWord c.val]) := by
  have houtside : lowestIn set (fun d => !own.getLsbD d.val) = some c :=
    (lowestIn_eq_some_iff_isLowest fun _ => iff_of_eq (Bool.not_eq_true' _)).2 h
  simp only [dropRefusal, if_neg hset, houtside]

theorem dropRefusal_of_whole (hset : set ≠ 0) : dropRefusal set set = some (.wrongState, [set]) := by
  have hinside : lowestIn set (fun d => !set.getLsbD d.val) = none := lowestIn_eq_none.2 fun d hd => by
    simp only [hd, Bool.not_true]
  have hrest : set &&& ~~~set = 0 := by simp
  simp only [dropRefusal, if_neg hset, hinside, if_pos hrest]

/-- R103: the four checks of OFFER in their order. -/
theorem offerRefusal_of_holder (h : (s.lease n).holder = some target) : s.offerRefusal n target = some (.badArgument, []) := by
  rw [State.offerRefusal, if_pos h]

theorem other_target {h : Word} (hlease : s.holdsLive m h n) (hne : target ≠ m) : (s.lease n).holder ≠ some target := fun hself =>
  hne (Option.some.inj (hself.symm.trans hlease.2.2))

section OtherTarget
variable (hother : (s.lease n).holder ≠ some target)
include hother

theorem offerRefusal_of_disabled (h : (s.master target).enabled = false) :
    s.offerRefusal n target = some (.masterDisabled, [natWord target.val]) := by
  rw [State.offerRefusal, if_neg hother, if_pos h]

variable (henabled : (s.master target).enabled = true)
include henabled

theorem offerRefusal_of_forbidden (h : isLowest (s.lease n).channels (s.forbids target) c) :
    s.offerRefusal n target = some (.notPermitted, [natWord c.val]) := by
  simp only [State.offerRefusal, if_neg hother, henabled, Bool.true_eq_false, if_false, (lowestForbidden_eq_some s target).2 h]

theorem offerRefusal_of_full (hpermitted : ∀ d : Fin 16, (s.lease n).channels.getLsbD d.val = true → ¬ s.forbids target d)
    (hlen : 4 ≤ (s.offerList target).length) (hnot : n ∉ s.offerList target) :
    s.offerRefusal n target = some (.offerListFull, [natWord target.val]) := by
  simp only [State.offerRefusal, if_neg hother, henabled, Bool.true_eq_false, if_false, (lowestForbidden_eq_none s target).2 hpermitted]
  exact if_pos ⟨hlen, hnot⟩

end OtherTarget

/-- R106, R108: no offer to `m` stands on the record that the handle names. -/
theorem noOffer_of_not_standing {h : Word} (hnot : ¬ (s.names h (handleLease h) ∧ (s.lease (handleLease h)).offerTarget = some m)) :
    s.noOffer m h = true :=
  Bool.eq_true_of_not_eq_false fun hfalse => hnot (noOffer_eq_false.1 hfalse)

theorem acceptRefusal_of_noOffer {h : Word} (hnone : s.noOffer m h = true) : s.acceptRefusal m h = some (.noOffer, []) := by
  rw [State.acceptRefusal, if_pos hnone]

section Standing
variable {h : Word} (hnames : s.names h n) (htarget : (s.lease n).offerTarget = some m)
include hnames htarget

/-- R106: the checks of ACCEPT after NO_OFFER. -/
theorem acceptRefusal_of_forbidden (hc : isLowest (s.lease n).channels (s.forbids m) c) :
    s.acceptRefusal m h = some (.notPermitted, [natWord c.val]) := by
  have hoffer := noOffer_of_standing hnames htarget
  obtain ⟨rfl, -⟩ := hnames
  simp only [State.acceptRefusal, hoffer, Bool.false_eq_true, if_false, (lowestForbidden_eq_some s m).2 hc]

theorem acceptRefusal_of_quota (hpermitted : ∀ d : Fin 16, (s.lease n).channels.getLsbD d.val = true → ¬ s.forbids m d)
    (hquota : (s.master m).quota ≤ (s.master m).count) :
    s.acceptRefusal m h = some (.quota, [natWord (s.master m).count, natWord (s.master m).quota]) := by
  have hoffer := noOffer_of_standing hnames htarget
  obtain ⟨rfl, -⟩ := hnames
  simp only [State.acceptRefusal, hoffer, Bool.false_eq_true, if_false, (lowestForbidden_eq_none s m).2 hpermitted, if_pos hquota]

end Standing

/-! ### The commands that refuse -/

section Refused
variable (hs : s.canTake m w)
include hs

theorem exec_addChannels_of_refusal (hlease : s.holdsLive m (s.args m w)[0] n)
    (h : s.addRefusal m (s.args m w)[1] = some (code, items)) :
    exec (.addChannels m w) s = .next (s.finish m w 0x14 code items) :=
  event_takeCommand_eq_finish 0x14 hs (.inl rfl) rfl rfl fun x => by
    rw [addChannelsOwner, onLease_of_holdsLive (s := s.setWindow m w x) hlease]
    simp only [addRefusal_setWindow, h]

theorem exec_dropChannels_of_refusal (hlease : s.holdsLive m (s.args m w)[0] n)
    (h : dropRefusal (s.lease n).channels (s.args m w)[1] = some (code, items)) :
    exec (.dropChannels m w) s = .next (s.finish m w 0x15 code items) :=
  event_closed_eq_finish_self hs (.inl rfl) rfl fun x => by
    rw [dropChannelsOwner, onLease_of_holdsLive (s := s.setWindow m w x) hlease]
    simp only [setWindow_lease, h]

theorem exec_offer_of_refusal (hlease : s.holdsLive m (s.args m w)[0] n) (htarget : (s.args m w)[1] = natWord target.val)
    (h : s.offerRefusal n target = some (code, items)) :
    exec (.offer m w) s = .next (s.finish m w 0x18 code items) :=
  event_takeCommand_eq_finish 0x18 hs (.inl rfl) (offerBad_eq_false htarget) rfl fun x => by
    rw [offerOwner, onLease_of_holdsLive (s := s.setWindow m w x) hlease, htarget, eightOfWord_natWord]
    simp only [offerRefusal_setWindow, h]

theorem exec_accept_of_refusal (h : s.acceptRefusal m (s.args m w)[0] = some (code, items)) :
    exec (.accept m w) s = .next (s.finish m w 0x1A code items) :=
  event_closed_eq_finish_self hs (.inl rfl) rfl fun x => by
    simp only [acceptOwner, acceptRefusal_setWindow, h]

theorem exec_decline_of_noOffer (h : s.noOffer m (s.args m w)[0] = true) :
    exec (.decline m w) s = .next (s.finish m w 0x1B .noOffer []) :=
  event_takeCommand_eq_finish 0x1B hs (.inl rfl) rfl rfl fun _ => if_pos h

end Refused

/-- Settles O23. -/
theorem channelAndOfferRefusalsInOrder : Obligations.ChannelAndOfferRefusalsInOrder := by
  unfold Obligations.ChannelAndOfferRefusalsInOrder
  intro m w n s hs
  refine ⟨fun hlease => ⟨fun hempty => ?_, fun hset => ⟨fun c hc => ?_, fun hpermitted => ⟨fun c k hc hk => ?_, fun hother =>
    ⟨fun c hc => ?_, fun hidle c hc => ?_⟩⟩, fun c hc => ?_, fun hwhole => ?_⟩, fun target htarget => ⟨fun hself => ?_, fun hne =>
    ⟨fun hdisabled => ?_, fun henabled => ⟨fun c hc => ?_, fun hpermitted hlen hnot => ?_⟩⟩⟩⟩, fun hnone => ?_, fun hnames htarget =>
    ⟨fun c hc => ?_, fun hpermitted hquota => ?_⟩⟩
  · exact ⟨exec_addChannels_of_refusal hs hlease (addRefusal_of_empty hempty),
      exec_dropChannels_of_refusal hs hlease (dropRefusal_of_empty hempty)⟩
  · exact exec_addChannels_of_refusal hs hlease (addRefusal_of_forbidden hset hc)
  · exact exec_addChannels_of_refusal hs hlease (addRefusal_of_governed hset hpermitted hc hk)
  · exact exec_addChannels_of_refusal hs hlease (addRefusal_of_busy hset hpermitted hother hc)
  · exact exec_addChannels_of_refusal hs hlease (addRefusal_of_reserved hset hpermitted hother hidle hc)
  · exact exec_dropChannels_of_refusal hs hlease (dropRefusal_of_outside hset hc)
  · exact exec_dropChannels_of_refusal hs hlease (hwhole ▸ dropRefusal_of_whole hset)
  · exact exec_offer_of_refusal hs hlease htarget (offerRefusal_of_holder (hself ▸ hlease.2.2))
  · exact exec_offer_of_refusal hs hlease htarget (offerRefusal_of_disabled (other_target hlease hne) hdisabled)
  · exact exec_offer_of_refusal hs hlease htarget (offerRefusal_of_forbidden (other_target hlease hne) henabled hc)
  · exact exec_offer_of_refusal hs hlease htarget (offerRefusal_of_full (other_target hlease hne) henabled hpermitted hlen hnot)
  · have hoffer := noOffer_of_not_standing hnone
    exact ⟨exec_accept_of_refusal hs (acceptRefusal_of_noOffer hoffer), exec_decline_of_noOffer hs hoffer⟩
  · exact exec_accept_of_refusal hs (acceptRefusal_of_forbidden hnames htarget hc)
  · exact exec_accept_of_refusal hs (acceptRefusal_of_quota hnames htarget hpermitted hquota)

end Sys2Proof.Machine
end

section
/-! PROOFS. The expiry event (O40). -/

namespace Sys2Proof.Machine

variable {s t : State} {n : Fin 64} {base : Base}

/-- R41: the record of a lease in its grace, with the notice. -/
theorem raise_grace_intoGrace (l : Lease) : l.intoGrace.raise .grace =
    { l with
      state := .grace, expiry := l.expiry + l.grace.setWidth 32, notices := l.notices ||| 0b000001, noticeCount := l.noticeCount + 1 } := rfl

theorem raise_expiry_of_setLease (l : Lease) (kind : NoticeKind) (k : Fin 64) :
    ((s.setLease n (l.raise kind)).lease k).expiry = ((s.setLease n l).lease k).expiry := by
  rw [setLease_lease, setLease_lease]
  split_ifs <;> rfl

theorem setExpiryQueue_setLease (q : List (Fin 64)) (l : Lease) :
    (s.setExpiryQueue base q).setLease n l = (s.setLease n l).setExpiryQueue base q := by
  cases base <;> rfl

/-- R41, R39: the record of the entry into grace, and its new place in the queue. -/
theorem requeue_intoGrace_raise :
    ((s.setLease n (s.lease n).intoGrace).requeue base n).raiseNotice n .grace =
      (s.setLease n ((s.lease n).intoGrace.raise .grace)).setExpiryQueue base
        (insertByDistance (fun k => (((s.setLease n ((s.lease n).intoGrace.raise .grace)).lease k).expiry - s.now base).toInt) n
          ((s.expiryQueue base).filter (· != n))) := by
  simp only [requeue_eq_setExpiryQueue, raise_expiry_of_setLease, State.raiseNotice, setExpiryQueue_setLease, setExpiryQueue_lease,
    setLease_lease_same, setLease_setLease, setLease_now, setLease_expiryQueue]
  rfl

/-- R41: the entry into grace, as one next state. -/
theorem enterGrace_eq : s.enterGrace n =
    ((s.setLease n ((s.lease n).intoGrace.raise .grace)).setExpiryQueue (s.lease n).base
      (insertByDistance (fun k => (((s.setLease n ((s.lease n).intoGrace.raise .grace)).lease k).expiry - s.now (s.lease n).base).toInt) n
        ((s.expiryQueue (s.lease n).base).filter (· != n)))).mapChannels fun c ch =>
      if (s.lease n).graceAction = .park ∧ (s.lease n).channels.getLsbD c.val = true ∧ ch.state = .active then { ch with state := .parked }
      else ch := by
  rw [← requeue_intoGrace_raise]
  by_cases hpark : (s.lease n).graceAction = .park
  · rw [State.enterGrace, if_pos hpark]
    refine congrArg _ (funext fun c => funext fun ch => ?_)
    simp only [hpark, true_and, ite_and]
    rfl
  · rw [State.enterGrace, if_neg hpark]
    simp only [hpark, false_and, if_false, mapChannels_id]
    rfl

theorem reached_of_lt {stamp now : Stamp} (h : (now - stamp).toNat < 2147483648) : reached stamp now = true := decide_eq_true h

theorem setWindow_window_self (s : State) (m : Fin 8) (w : Fin 2) : s.setWindow m w (s.window m w) = s :=
  State.ext_records (fun k v => by
    rw [setWindow_window]
    split_ifs with h
    · rw [h.1, h.2]
    · rfl) (fun _ => rfl) (fun _ => rfl) (fun _ => rfl) (fun _ => rfl) (fun _ => rfl) rfl rfl rfl rfl rfl rfl rfl rfl rfl rfl rfl

/-- R40: the head's stamp is not reached. -/
theorem takeExpiry_of_not_reached {rest : List (Fin 64)} (hqueue : s.expiryQueue base = n :: rest)
    (h : ¬ (s.now base - (s.lease n).expiry).toNat < 2147483648) : s.takeExpiry base = s := by
  simp only [State.takeExpiry, hqueue]
  exact if_neg fun hreached => h (of_decide_eq_true hreached)

section Reached
variable {rest : List (Fin 64)} (hqueue : s.expiryQueue base = n :: rest) (h : (s.now base - (s.lease n).expiry).toNat < 2147483648)
include hqueue h

/-- R41: the head enters grace. -/
theorem takeExpiry_of_grace (hheld : (s.lease n).state = .held) (hgrace : (s.lease n).grace ≠ 0) :
    s.takeExpiry base = s.enterGrace n := by
  simp only [State.takeExpiry, hqueue]
  rw [if_pos (reached_of_lt h), if_pos ⟨hheld, hgrace⟩]

/-- R42: the head lapses. -/
theorem takeExpiry_of_lapse (hstate : (s.lease n).state = .grace ∨ ((s.lease n).state = .held ∧ (s.lease n).grace = 0)) :
    s.takeExpiry base = closeEvent s (s.lapsedBy n .expired) := by
  have hlive : (s.lease n).live = true := (lease_live_iff _).2 (hstate.symm.imp_left And.left)
  have hnot : ¬ ((s.lease n).state = .held ∧ (s.lease n).grace ≠ 0) := by
    rintro ⟨hheld, hgrace⟩
    obtain h | ⟨-, h⟩ := hstate
    · exact nomatch hheld.symm.trans h
    · exact hgrace h
  simp only [State.takeExpiry, hqueue]
  rw [if_pos (reached_of_lt h), if_neg hnot, if_pos hlive, lapse_eq_lapsedBy]

end Reached

/-- Settles O40. -/
theorem expiryEventActsOnTheHead : Obligations.ExpiryEventActsOnTheHead := by
  unfold Obligations.ExpiryEventActsOnTheHead
  intro base s hreset ha hb
  rw [exec_expiryEvent, tickEvent_of_not_due _ _ hreset ha hb]
  refine ⟨fun hempty => ?_, fun n rest hqueue hbase => ⟨fun h => ?_, fun h hheld hgrace => ?_, fun h hstate hgoverned => ?_⟩⟩
  · simp only [State.takeExpiry, hempty]
  · rw [takeExpiry_of_not_reached hqueue h]
  · subst hbase
    rw [takeExpiry_of_grace hqueue h hheld hgrace, enterGrace_eq]
    rfl
  · have hstanding : (s.lease n).state ≠ .free := by rintro hfree; simp [hfree] at hstate
    rw [takeExpiry_of_lapse hqueue h hstate]
    rw [← setWindow_window_self (s.lapsedBy n .expired) 0 0]
    exact congrArg _ (closeEvent_eq_ite (scanTriggered_lapsedBy _ _ hstanding hgoverned))

end Sys2Proof.Machine
end

section
/-! PROOFS. The parts of an A-tick: wait deadlines (O42) and the ends of drains (O44). -/

namespace Sys2Proof.Machine

variable {s t : State} {c : Fin 16} {n : Fin 64}

/-! ### Wait deadlines (R57) -/

/-- R57, R54: the claims that leave the queue bring one scan. -/
theorem scanTriggered_endClaims {p : Claim → Bool} (code : ResultCode) (h : s.claims.any p = true) :
    scanTriggered s (s.endClaims p code) = true := by
  obtain ⟨q, hq, hp⟩ := List.any_eq_true.1 h
  refine (scanTriggered_iff _ _).2 (.inr (.inr (.inr ?_)))
  exact List.length_filter_lt_length_iff_exists.2 ⟨q, hq, by simp [hp]⟩

/-- R45, R57: claims leave the queue, and their windows are done late without result words. -/
theorem endClaims_eq (p : Claim → Bool) (code : ResultCode) : s.endClaims p code =
    { s with claims := s.claims.filter fun q => !p q }.mapWindows fun m w x =>
      if ∃ q ∈ s.claims, p q = true ∧ q.master = m ∧ q.window = w then
        { x with
          state := .done, code := some code, words := resultWords [], drainSet := 0, released := 0, drained := 0
          completionPending := true }
      else x := by
  have hwindow (m : Fin 8) (w : Fin 2) : s.claims.any (fun q => p q && q.isIn m w) = true ↔
      ∃ q ∈ s.claims, p q = true ∧ q.master = m ∧ q.window = w := by
    simp [Claim.isIn]
  simp only [State.endClaims, hwindow]
  rfl

/-- Settles O42. -/
theorem reachedDeadlinesTimeOut : Obligations.ReachedDeadlinesTimeOut := by
  unfold Obligations.ReachedDeadlinesTimeOut
  intro s hreset ha hb due
  rw [exec_waitDeadline, tickEvent_of_not_due _ _ hreset ha hb]
  have hdue : s.deadlineReached = due := funext fun q => by
    simp only [State.deadlineReached, due]
    cases q.deadline <;> rfl
  refine ⟨fun hnone => ?_, fun hsome => ?_⟩
  · rw [takeWaitDeadlines_of_not_due]
    rw [State.waitDeadlineDue, hdue, List.any_eq_false]
    exact fun q hq => by simp [hnone q hq]
  · have hany : s.claims.any due = true := List.any_eq_true.2 hsome
    rw [State.takeWaitDeadlines, State.waitDeadlineDue, hdue, if_pos hany, closeEvent, if_pos (scanTriggered_endClaims _ hany), endClaims_eq]

/-! ### The ends of drains (R119, R120, R88) -/

/-- A channel set without channel `c`. -/
theorem without_getLsbD (set : ChannelSet) (c d : Fin 16) :
    (set &&& ~~~(1#16 <<< c.val)).getLsbD d.val = (set.getLsbD d.val && decide (d ≠ c)) := by
  have hbit : (~~~(1#16 <<< c.val)).getLsbD d.val = decide (d ≠ c) := by revert c d; decide
  rw [BitVec.getLsbD_and, hbit]

theorem without_eq_zero_iff {set : ChannelSet} : set &&& ~~~(1#16 <<< c.val) = 0 ↔ ∀ d : Fin 16, d ≠ c → set.getLsbD d.val = false := by
  constructor
  · intro h d hd
    have hbit := without_getLsbD set c d
    rw [h, decide_eq_true hd, Bool.and_true] at hbit
    exact hbit.symm.trans (BitVec.getLsbD_zero ..)
  · intro h
    refine channelSet_ext fun d => ?_
    rw [without_getLsbD]
    by_cases hd : d = c
    · simp [hd]
    · rw [h d hd]
      simp

/-- R120, R88: a window loses channel `c` from its drain set. -/
theorem leaveDrain_eq (x : Window) : x.leaveDrain c =
    if x.drainSet.getLsbD c.val = false then x
    else if ∀ d : Fin 16, d ≠ c → x.drainSet.getLsbD d.val = false then
      { x with
        state := .done, code := some .ok, words := resultWords [x.released, x.drained], drainSet := 0, released := 0
        drained := 0, completionPending := true }
    else { x with drainSet := x.drainSet &&& ~~~(1#16 <<< c.val) } := by
  rw [Window.leaveDrain]
  by_cases hin : x.drainSet.getLsbD c.val = true
  · simp only [hin, without_eq_zero_iff, if_true, Bool.true_eq_false, if_false]
    rfl
  · rw [if_neg hin, if_pos (Bool.eq_false_iff.2 hin)]

theorem atBoundary_iff (v : Waveform) : v.atBoundary = true ↔ v.mode = .periodic ∧ v.position = v.period ∧ v.period ≠ 0 := by
  simp [Waveform.atBoundary, and_assoc]

theorem drainEndDue_iff : s.drainEndDue c = true ↔ (s.channel c).state = .draining ∧ (s.channel c).wave.mode = .periodic
    ∧ (s.channel c).wave.position = (s.channel c).wave.period ∧ (s.channel c).wave.period ≠ 0 := by
  rw [State.drainEndDue, Bool.and_eq_true, atBoundary_iff, beq_iff_eq]

/-- Settles O44. -/
theorem drainEndsAtTheBoundary : Obligations.DrainEndsAtTheBoundary := by
  unfold Obligations.DrainEndsAtTheBoundary
  intro c s hreset ha hb due
  have hiff : s.drainEndDue c = true ↔ due := drainEndDue_iff
  rw [exec_drainEnd, tickEvent_of_not_due _ _ hreset ha hb]
  refine ⟨fun hnot => ?_, fun hdue => ?_⟩
  · rw [takeDrainEnd_of_not_due s (Bool.eq_false_iff.2 fun h => hnot (hiff.1 h))]
  · have hscan : scanTriggered s ((s.setChannel c (s.channel c).enterIdle).mapWindows fun _ _ x => x.leaveDrain c) = true :=
      (scanTriggered_iff _ _).2 (.inl ⟨c, by simp [hdue.1], by simp [Channel.enterIdle]⟩)
    rw [State.takeDrainEnd, if_pos (hiff.2 hdue), closeEvent, if_pos hscan]
    simp only [leaveDrain_eq]
    rfl

end Sys2Proof.Machine
end

section
/-! PROOFS. The waveform generators within an A-tick (O43). -/

namespace Sys2Proof.Machine

variable {s t : State} {c : Fin 16} {n : Fin 64}

/-! ### Comparators (R136, R137) -/

theorem comparatorReached_iff {armed : Option Stamp} {now : Stamp} :
    comparatorReached armed now = true ↔ ∃ t : Stamp, armed = some t ∧ (now - t).toNat < 2147483648 := by
  cases armed with
  | none => simp [comparatorReached]
  | some t => simp [comparatorReached, reached]

/-- R136: the comparators of a governed channel match, and its lease hears of it when neither is left armed. -/
theorem matchComparators_of_governing (hgoverning : (s.channel c).governing = some n) {rise fall : Bool} (h : (rise || fall) = true)
    {v : Waveform} (hv : (s.channel c).wave.matched rise fall = v) :
    s.matchComparators c rise fall =
      if v.rise = none ∧ v.fall = none then
        (s.setChannel c { s.channel c with wave := v }).setLease n
          { s.lease n with notices := (s.lease n).notices ||| 0b001000, noticeCount := (s.lease n).noticeCount + 1 }
      else s.setChannel c { s.channel c with wave := v } := by
  subst hv
  rw [State.matchComparators, if_pos h]
  simp only [State.notifyGovernor, setChannel_channel_same, hgoverning]
  rfl

theorem comparatorDue_iff : s.comparatorDue c = true ↔ (s.channel c).wave.mode = .single ∧
    (comparatorReached (s.channel c).wave.rise s.baseA.counter || comparatorReached (s.channel c).wave.fall s.baseA.counter) = true := by
  rw [State.comparatorDue, Bool.and_eq_true, beq_iff_eq]

/-- R137: reached comparators of a SINGLE channel match. -/
theorem takeComparators_of_reached (hmode : (s.channel c).wave.mode = .single) (hgoverning : (s.channel c).governing = some n)
    {rise fall : Bool} (hrise : comparatorReached (s.channel c).wave.rise s.baseA.counter = rise)
    (hfall : comparatorReached (s.channel c).wave.fall s.baseA.counter = fall) (h : (rise || fall) = true)
    {v : Waveform} (hv : (s.channel c).wave.matched rise fall = v) :
    s.takeComparators c =
      if v.rise = none ∧ v.fall = none then
        (s.setChannel c { s.channel c with wave := v }).setLease n
          { s.lease n with notices := (s.lease n).notices ||| 0b001000, noticeCount := (s.lease n).noticeCount + 1 }
      else s.setChannel c { s.channel c with wave := v } := by
  subst hrise hfall
  rw [State.takeComparators, if_pos (comparatorDue_iff.2 ⟨hmode, h⟩), matchComparators_of_governing hgoverning h hv]

/-! ### Width edges and boundaries (R138, R139) -/

theorem setChannel_channel_self (s : State) (c : Fin 16) : s.setChannel c (s.channel c) = s :=
  State.ext_records (fun _ _ => rfl) (fun _ => rfl) (fun _ => rfl) (fun _ => rfl) (fun k => by
    rw [setChannel_channel]
    split_ifs with h
    · rw [h]
    · rfl) (fun _ => rfl) rfl rfl rfl rfl rfl rfl rfl rfl rfl rfl rfl

/-- R138: the flip-flop is 0 once the position is at the width; where it was 0 already nothing changes. -/
theorem takeWidthEdge_of_at_width (hmode : (s.channel c).wave.mode = .periodic) (hposition : (s.channel c).wave.position = (s.channel c).wave.width)
    (hwidth : (s.channel c).wave.width.toNat < (s.channel c).wave.period.toNat) :
    s.takeWidthEdge c = s.setChannel c { s.channel c with wave := { (s.channel c).wave with flipFlop := false } } := by
  have hdue : s.widthEdgeDue c = (s.channel c).wave.flipFlop := by
    rw [State.widthEdgeDue]
    simp [hmode, hposition, hwidth]
  cases hflip : (s.channel c).wave.flipFlop with
  | true => rw [State.takeWidthEdge, hdue, hflip, if_pos rfl]
  | false =>
    rw [takeWidthEdge_of_not_due s (hdue.trans hflip), ← hflip]
    exact (setChannel_channel_self s c).symm

theorem widthEdgeDue_eq_false (h : ¬ ((s.channel c).wave.mode = .periodic ∧ (s.channel c).wave.position = (s.channel c).wave.width
    ∧ (s.channel c).wave.width.toNat < (s.channel c).wave.period.toNat)) : s.widthEdgeDue c = false :=
  Bool.eq_false_iff.2 fun hdue => by
    simp only [State.widthEdgeDue, Bool.and_eq_true, beq_iff_eq, decide_eq_true_eq] at hdue
    obtain ⟨⟨⟨hmode, hposition⟩, hwidth⟩, -⟩ := hdue
    exact h ⟨hmode, hposition, hwidth⟩

theorem boundaryDue_iff : s.boundaryDue c = true ↔ ((s.channel c).state = .active ∨ (s.channel c).state = .parked)
    ∧ (s.channel c).wave.mode = .periodic ∧ (s.channel c).wave.position = (s.channel c).wave.period ∧ (s.channel c).wave.period ≠ 0 := by
  rw [State.boundaryDue, Bool.and_eq_true, channel_governed_iff, atBoundary_iff]

/-- Settles O43. -/
theorem generatorsActAtATicks : Obligations.GeneratorsActAtATicks := by
  unfold Obligations.GeneratorsActAtATicks
  intro c s hreset ha hb
  rw [exec_comparatorMatch, exec_widthEdge, exec_boundary]
  simp only [tickEvent_of_not_due _ _ hreset ha hb]
  refine ⟨⟨fun hnone => ?_, fun hmode n hgoverning => ⟨fun hrise hfall => ?_, fun hrise hfall => ?_, fun hrise hfall => ?_⟩⟩,
    fun hmode hposition hwidth => ?_, fun hnot => ?_, fun n hgoverning hstate hmode hposition hperiod => ?_, fun hnot => ?_⟩
  · rw [takeComparators_of_not_due]
    refine Bool.eq_false_iff.2 fun hdue => ?_
    obtain ⟨hmode, hreached⟩ := comparatorDue_iff.1 hdue
    rw [Bool.or_eq_true, comparatorReached_iff, comparatorReached_iff] at hreached
    obtain hnot | ⟨hrise, hfall⟩ := hnone
    · exact hnot hmode
    · exact hreached.elim hrise hfall
  · rw [takeComparators_of_reached hmode hgoverning (comparatorReached_iff.2 hrise) (comparatorReached_iff.2 hfall) rfl rfl]
    rfl
  · rw [takeComparators_of_reached hmode hgoverning (comparatorReached_iff.2 hrise)
      (Bool.eq_false_iff.2 fun h => hfall (comparatorReached_iff.1 h)) rfl rfl]
    simp only [Waveform.matched, if_true, true_and, Bool.false_eq_true, if_false]
  · rw [takeComparators_of_reached hmode hgoverning (Bool.eq_false_iff.2 fun h => hrise (comparatorReached_iff.1 h))
      (comparatorReached_iff.2 hfall) rfl rfl]
    simp only [Waveform.matched, if_true, and_true, Bool.false_eq_true, if_false]
  · rw [takeWidthEdge_of_at_width hmode hposition hwidth]
  · rw [takeWidthEdge_of_not_due s (widthEdgeDue_eq_false hnot)]
  · rw [State.takeBoundary, if_pos (boundaryDue_iff.2 ⟨hstate, hmode, hposition, hperiod⟩), startPeriod_of_governing s hgoverning,
      State.changeWave]
    cases hstaged : (s.channel c).wave.staged with
    | none =>
      rw [Waveform.startPeriod_of_unstaged hstaged]
      rfl
    | some pair =>
      rw [Waveform.startPeriod_of_staged hstaged]
      rfl
  · rw [takeBoundary_of_not_due s (Bool.eq_false_iff.2 fun h => hnot (boundaryDue_iff.1 h))]

end Sys2Proof.Machine
end

section
/-! PROOFS. ARM_SINGLE (O28). -/

namespace Sys2Proof.Machine

variable {s : State} {c : Fin 16} {n : Fin 64}

/-- A comparator selector, with KEEP for a word that names none. -/
theorem selectorOfWord_getD (x : Word) :
    (selectorOfWord x).getD .keep = if x = 1 then .arm else if x = 2 then .disarm else .keep := by
  unfold selectorOfWord
  by_cases h : x = 0
  · subst h
    rfl
  · rw [if_neg h]
    split_ifs <;> rfl

/-- R135: a comparator that this command armed with a stamp already reached. -/
theorem armed_reached_iff (x : Word) (stamp now : Stamp) :
    ((selectorOfWord x).getD .keep == .arm && reached stamp now) = true ↔ x = 1 ∧ (now - stamp).toNat < 2147483648 := by
  rw [selectorOfWord_getD, Bool.and_eq_true, beq_iff_eq, reached, decide_eq_true_eq]
  refine and_congr_left fun _ => ?_
  split_ifs <;> simp_all

/-- R135, R136: a comparator after its selector and an immediate match. -/
theorem armBy_matched (x : Word) (stamp now : Stamp) (present : Option Stamp) :
    (if x = 1 ∧ (now - stamp).toNat < 2147483648 then none else armBy ((selectorOfWord x).getD .keep) stamp present) =
    if (x = 1 ∧ (now - stamp).toNat < 2147483648) ∨ x = 2 then none else if x = 1 then some stamp else present := by
  rw [selectorOfWord_getD, ite_or]
  refine ite_congr rfl (fun _ => rfl) fun _ => ?_
  by_cases h1 : x = 1
  · subst h1
    rfl
  · rw [if_neg h1, if_neg h1]
    split_ifs <;> rfl

/-- R135, R136: the waveform fields that ARM_SINGLE leaves. -/
def Waveform.armedSingle (v : Waveform) (rise fall : Word) (riseStamp fallStamp now : Stamp) : Waveform :=
  let riseNow := rise = 1 ∧ (now - riseStamp).toNat < 2147483648
  let fallNow := fall = 1 ∧ (now - fallStamp).toNat < 2147483648
  { v with
    rise := if riseNow ∨ rise = 2 then none else if rise = 1 then some riseStamp else v.rise
    fall := if fallNow ∨ fall = 2 then none else if fall = 1 then some fallStamp else v.fall
    flipFlop := if fallNow then false else if riseNow then true else v.flipFlop }

theorem matched_armBy (v : Waveform) (rise fall : Word) (riseStamp fallStamp now : Stamp) :
    Waveform.matched
      { v with
        rise := armBy ((selectorOfWord rise).getD .keep) riseStamp v.rise, fall := armBy ((selectorOfWord fall).getD .keep) fallStamp v.fall }
      ((selectorOfWord rise).getD .keep == .arm && reached riseStamp now) ((selectorOfWord fall).getD .keep == .arm && reached fallStamp now)
    = v.armedSingle rise fall riseStamp fallStamp now := by
  simp only [Waveform.matched, Waveform.armedSingle, armed_reached_iff, armBy_matched]

theorem matched_false (v : Waveform) : v.matched false false = v := rfl

/-- R135, R136: the effect of ARM_SINGLE on a governed channel. -/
theorem armSingle_eq (hgoverning : (s.channel c).governing = some n) (rise fall : Word) (riseStamp fallStamp : Stamp) {v : Waveform}
    (hv : (s.channel c).wave.armedSingle rise fall riseStamp fallStamp s.baseA.counter = v) :
    s.armSingle c ((selectorOfWord rise).getD .keep) riseStamp ((selectorOfWord fall).getD .keep) fallStamp =
      if ((rise = 1 ∧ (s.baseA.counter - riseStamp).toNat < 2147483648) ∨ (fall = 1 ∧ (s.baseA.counter - fallStamp).toNat < 2147483648))
        ∧ v.rise = none ∧ v.fall = none then
        (s.setChannel c { s.channel c with wave := v }).setLease n
          { s.lease n with notices := (s.lease n).notices ||| 0b001000, noticeCount := (s.lease n).noticeCount + 1 }
      else s.setChannel c { s.channel c with wave := v } := by
  rw [← matched_armBy] at hv
  simp only [← armed_reached_iff, ← Bool.or_eq_true]
  by_cases h : ((selectorOfWord rise).getD .keep == .arm && reached riseStamp s.baseA.counter
      || (selectorOfWord fall).getD .keep == .arm && reached fallStamp s.baseA.counter) = true
  · rw [State.armSingle, matchComparators_of_governing (n := n) (v := v) (by rw [State.changeWave, setChannel_channel_same, hgoverning]) h
      (by rw [State.changeWave, setChannel_channel_same, hv])]
    simp only [h, true_and, State.changeWave, setChannel_channel_same, setChannel_setChannel, setChannel_lease]
  · obtain ⟨hrise, hfall⟩ := Bool.or_eq_false_iff.1 (Bool.eq_false_iff.2 h)
    rw [State.armSingle, State.matchComparators, if_neg h, if_neg fun hboth => h hboth.1, State.changeWave, ← hv, hrise, hfall]
    rfl

theorem waveformReport_setLease (l : Lease) : (s.setLease n l).waveformReport c = s.waveformReport c := rfl

/-- Settles O28. -/
theorem armSingleMatchesReachedStamps : Obligations.ArmSingleMatchesReachedStamps := by
  unfold Obligations.ArmSingleMatchesReachedStamps
  intro m w n c s hs hlease hc hport hin hgoverning
  have hbad : armSingleBad (s.args m w) = false := (armSingleBad_eq_badAtPort _).trans hport
  refine ⟨fun hmode => ?_, fun hmode => ?_⟩
  · refine (event_waveform_of_taken (owner := armSingleOwner m) (modeCheck := onlyIn .single) hs hlease hc hbad (fun _ => rfl) hin hmode
      rfl (t := s.armSingle c ((selectorOfWord (s.args m w)[2]).getD .keep) (stampOfWords (s.args m w)[3] (s.args m w)[4])
        ((selectorOfWord (s.args m w)[5]).getD .keep) (stampOfWords (s.args m w)[6] (s.args m w)[7])) ?_ fun x => ?_).trans ?_
    · rw [armSingle_eq hgoverning _ _ _ _ rfl]
      split_ifs <;> rfl
    · rw [armSingle_eq hgoverning _ _ _ _ rfl, armSingle_eq (s := s.setWindow m w x) hgoverning _ _ _ _ rfl]
      rw [apply_ite (fun t : State => t.setWindow m w x)]
      rfl
    · rw [armSingle_eq hgoverning _ _ _ _ rfl, apply_ite (fun t : State => t.waveformReport c), waveformReport_setLease, ite_self]
      rfl
  · exact event_waveform_of_modeRefused (owner := armSingleOwner m) (modeCheck := onlyIn .single) hs hlease hc hbad (fun _ => rfl) hin rfl
      (if_neg hmode)

end Sys2Proof.Machine
end

section
/-! PROOFS. READ_TIME and NEXT_NOTICE (O26). -/

namespace Sys2Proof.Machine

variable {s : State} {m : Fin 8} {w : Fin 2}

/-! ### READ_TIME (R37, R176) -/

/-- R176: the state word of READ_TIME, field by field. -/
theorem stateWord_eq (b : BaseBState) (freeze honourA honourB : Bool) :
    b.code ||| (bitWord freeze <<< 4) ||| (bitWord (freeze && honourA) <<< 5) ||| (bitWord (freeze && honourB) <<< 6)
        ||| (bitWord honourA <<< 8) ||| (bitWord honourB <<< 9) =
      0#6 ++ BitVec.ofBool honourB ++ BitVec.ofBool honourA ++ 0#1 ++ BitVec.ofBool (freeze && honourB)
        ++ BitVec.ofBool (freeze && honourA) ++ BitVec.ofBool freeze ++ 0#2 ++ b.code.setWidth 2 := by
  cases b <;> revert freeze honourA honourB <;> decide

/-! ### NEXT_NOTICE (R157) -/

/-- R154: of a window, its completion-pending flag alone makes it a candidate. -/
theorem candidates_setWindow_congr {x y : Window} (h : x.completionPending = y.completionPending) :
    (s.setWindow m w x).candidates m = (s.setWindow m w y).candidates m := by
  have hcandidate (v : Fin 2) : (s.setWindow m w x).windowCandidate m v = (s.setWindow m w y).windowCandidate m v := by
    simp only [State.windowCandidate, setWindow_window, apply_ite Window.completionPending, h]
    rfl
  simp only [State.candidates, hcandidate]
  rfl

/-- R154: a window that is presented has its completion pending. -/
theorem completionPending_of_presented {v : Fin 2} {u : Nat} (h : s.presented m = some (.window v, u)) :
    (s.window m v).completionPending = true := by
  have hurgency := (presented_eq_some.1 h).1
  rw [State.itemUrgency] at hurgency
  by_contra hnot
  rw [if_neg fun hboth => hnot hboth.1] at hurgency
  exact nomatch hurgency

/-- R157: the words of NEXT_NOTICE read the issuing window's flag and nothing else of it. -/
theorem nextNoticeWords_setWindow_congr {x y : Window} (hx : x.completionPending = false) (hy : y.completionPending = false) :
    (s.setWindow m w x).nextNoticeWords m = (s.setWindow m w y).nextNoticeWords m := by
  have hcandidates := candidates_setWindow_congr (s := s) (m := m) (w := w) (hx.trans hy.symm)
  have hpresented : (s.setWindow m w x).presented m = (s.setWindow m w y).presented m := congrArg firstHighest hcandidates
  rw [State.nextNoticeWords, State.nextNoticeWords, hcandidates, hpresented]
  refine congrArg _ ?_
  cases h : (s.setWindow m w y).presented m with
  | none => rfl
  | some p =>
    obtain ⟨item, u⟩ := p
    cases item with
    | device => rfl
    | lease n => rfl
    | window v =>
      have hother : v ≠ w := by
        rintro rfl
        have hpending := completionPending_of_presented h
        rw [setWindow_window_same, hy] at hpending
        exact nomatch hpending
      have hwindow (z : Window) : (s.setWindow m w z).window m v = s.window m v := by rw [setWindow_window, if_neg fun h => hother h.2]
      simp only [State.presentedWords, hwindow]

/-- Settles O26. -/
theorem readTimeAndNextNotice : Obligations.ReadTimeAndNextNotice := by
  unfold Obligations.ReadTimeAndNextNotice
  intro m w s hs
  refine ⟨event_takeCommand_eq_finish 0x50 hs (.inl rfl) rfl rfl fun x => ?_, ?_⟩
  · rw [← stateWord_eq]
    rfl
  · obtain ⟨hsettled, hfree, henabled⟩ := hs
    have hport : portCheck s m (never (s.args m w)) (never (s.args m w)) = none := (portCheck_eq_none s m _ _).2 ⟨henabled, .inl rfl, rfl⟩
    rw [exec_nextNotice, event_of_settled _ _ hsettled, nextNoticeCommand,
      takeCommand_unchanged_eq_finish s m w 0x40 never never _ hfree hport rfl,
      nextNoticeWords_setWindow_congr (y := { s.window m w with completionPending := false }) rfl rfl, State.nextNoticeWords]
    dsimp only
    cases h : (s.setWindow m w { s.window m w with completionPending := false }).presented m with
    | none => rfl
    | some p =>
      obtain ⟨item, u⟩ := p
      cases item with
      | device => rfl
      | lease n => rfl
      | window v => rfl

end Sys2Proof.Machine
end

section
/-! PROOFS. The queries (O25): how each packs its words, and the five commands. -/

namespace Sys2Proof.Machine

variable {s : State} {m k : Fin 8} {w : Fin 2} {n : Fin 64} {c : Fin 16}

/-! ### Codes as fields of a word (R173) -/

theorem leaseState_code_eq (x : LeaseState) : x.code = (x.code.setWidth 2).setWidth 16 := by cases x <;> rfl

theorem endReasonCode_eq (x : Option EndReason) : endReasonCode x = ((endReasonCode x).setWidth 2).setWidth 16 := by
  cases x with
  | none => rfl
  | some why => cases why <;> rfl

theorem baseCode_eq (x : Base) : baseCode x = (BitVec.ofBool (x == .b)).setWidth 16 := by cases x <;> rfl

theorem graceAction_code_eq (x : GraceAction) : x.code = (BitVec.ofBool (x == .park)).setWidth 16 := by cases x <;> rfl

theorem bitWord_eq (x : Bool) : bitWord x = (BitVec.ofBool x).setWidth 16 := by cases x <;> rfl

/-- R173: two bytes in one word. -/
theorem bytes_pack (low high : BitVec 8) : low.setWidth 16 ||| (high.setWidth 16 <<< 8) = high ++ low := by
  have hlow := low.isLt
  have hhigh := high.isLt
  refine BitVec.eq_of_toNat_eq ?_
  rw [BitVec.toNat_or, BitVec.toNat_shiftLeft, BitVec.toNat_append, BitVec.toNat_setWidth_of_le (by decide),
    BitVec.toNat_setWidth_of_le (by decide), Nat.mod_eq_of_lt, Nat.or_comm]
  rw [Nat.shiftLeft_eq]
  omega

/-- R176: the flags word of QUERY_LEASE's STANDING view. -/
theorem standing_pack (state reason : BitVec 2) (base park notices : Bool) (urgency : BitVec 3) :
    state.setWidth 16 ||| ((BitVec.ofBool base).setWidth 16 <<< 4) ||| ((BitVec.ofBool park).setWidth 16 <<< 5)
        ||| ((BitVec.ofBool notices).setWidth 16 <<< 6) ||| (urgency.setWidth 16 <<< 8) ||| (reason.setWidth 16 <<< 12) =
      0#2 ++ reason ++ 0#1 ++ urgency ++ 0#1 ++ BitVec.ofBool notices ++ BitVec.ofBool park ++ BitVec.ofBool base ++ 0#2 ++ state := by
  revert state reason base park notices urgency
  decide

/-- R176: the flags word of QUERY_LEASE's TIMING view. -/
theorem timing_pack (state : BitVec 2) (base staged : Bool) :
    state.setWidth 16 ||| ((BitVec.ofBool base).setWidth 16 <<< 4) ||| ((BitVec.ofBool staged).setWidth 16 <<< 15) =
      BitVec.ofBool staged ++ 0#10 ++ BitVec.ofBool base ++ 0#2 ++ state := by
  revert state base staged
  decide

/-- R176: word 0 of QUERY_CLAIMS. -/
theorem position_pack (count : BitVec 4) (reason : BitVec 3) :
    count.setWidth 16 ||| 0x8000#16 ||| (reason.setWidth 16 <<< 8) = 1#1 ++ 0#4 ++ reason ++ 0#4 ++ count := by
  revert count reason
  decide

/-- R176: word 2 of QUERY_CLAIMS. -/
theorem claimFlags_pack (master : BitVec 3) (window : BitVec 1) (base park notices : Bool) :
    master.setWidth 16 ||| (window.setWidth 16 <<< 4) ||| ((BitVec.ofBool base).setWidth 16 <<< 8)
        ||| ((BitVec.ofBool park).setWidth 16 <<< 12) ||| ((BitVec.ofBool notices).setWidth 16 <<< 13) =
      0#2 ++ BitVec.ofBool notices ++ BitVec.ofBool park ++ 0#3 ++ BitVec.ofBool base ++ 0#3 ++ window ++ 0#1 ++ master := by
  revert master window base park notices
  decide

/-- R176: word 5 of QUERY_CLAIMS. -/
theorem urgency_pack (term : BitVec 8) (urgency : BitVec 3) :
    term.setWidth 16 ||| (urgency.setWidth 16 <<< 12) = 0#1 ++ urgency ++ 0#4 ++ term := by
  have hterm := term.isLt
  have hurgency := urgency.isLt
  refine BitVec.eq_of_toNat_eq ?_
  rw [BitVec.toNat_or, BitVec.toNat_shiftLeft, BitVec.toNat_append, BitVec.toNat_append, BitVec.toNat_append,
    BitVec.toNat_setWidth_of_le (by decide), BitVec.toNat_setWidth_of_le (by decide), Nat.mod_eq_of_lt, Nat.or_comm]
  · simp [← Nat.shiftLeft_add]
  · rw [Nat.shiftLeft_eq]
    omega

/-- R176: an entry's byte of LIST_OFFERS. -/
theorem offer_pack (state : BitVec 2) (holder : BitVec 3) :
    holder.setWidth 16 ||| (state.setWidth 16 <<< 4) = (0#2 ++ state ++ 0#1 ++ holder).setWidth 16 := by
  revert state holder
  decide

theorem natWord_master (k : Fin 8) : natWord k.val = (BitVec.ofNat 3 k.val).setWidth 16 := by revert k; decide

theorem natWord_window (w : Fin 2) : natWord w.val = (BitVec.ofNat 1 w.val).setWidth 16 := by revert w; decide

theorem natWord_count {count : Nat} (h : count ≤ 12) : natWord count = (BitVec.ofNat 4 count).setWidth 16 := by
  have hfin : ∀ i : Fin 13, natWord i.val = (BitVec.ofNat 4 i.val).setWidth 16 := by decide
  exact hfin ⟨count, by omega⟩

/-- R173: a number that may be absent is known by its two cases. -/
theorem presentEight_eq {f : Option (Fin 8) → Word} (hnone : f none = 0) (hsome : ∀ k, f (some k) = 0x8000 ||| natWord k.val) :
    presentEight = f := funext fun
  | none => hnone.symm
  | some k => (hsome k).symm

/-! ### QUERY_LEASE (R17 to R19) -/

theorem standingWords_eq : s.standingWords n =
    [handleWord n (s.lease n).generation,
     0#2 ++ (endReasonCode (s.lease n).endReason).setWidth 2 ++ 0#1 ++ (s.lease n).urgency ++ 0#1 ++ BitVec.ofBool (s.lease n).boundaryNotices
       ++ BitVec.ofBool ((s.lease n).graceAction == .park) ++ BitVec.ofBool ((s.lease n).base == .b) ++ 0#2
       ++ (s.lease n).state.code.setWidth 2,
     presentEight (s.lease n).holder, (s.lease n).channels, (s.lease n).grace, presentEight (s.lease n).line,
     presentEight (s.lease n).offerTarget, (s.lease n).notices.setWidth 16, (s.lease n).noticeCount, (s.lease n).renewals] := by
  rw [← standing_pack, ← leaseState_code_eq, ← endReasonCode_eq, ← baseCode_eq, ← graceAction_code_eq, ← bitWord_eq]
  rfl

theorem timingWords_eq : s.timingWords n =
    [handleWord n (s.lease n).generation,
     BitVec.ofBool (s.lease n).stagedTerm.isSome ++ 0#10 ++ BitVec.ofBool ((s.lease n).base == .b) ++ 0#2
       ++ (s.lease n).state.code.setWidth 2,
     (s.lease n).term.extractLsb' 0 16, ((s.lease n).term.extractLsb' 16 8).setWidth 16,
     ((s.lease n).stagedTerm.getD 0).extractLsb' 0 16, (((s.lease n).stagedTerm.getD 0).extractLsb' 16 8).setWidth 16,
     (s.lease n).expiry.extractLsb' 0 16, (s.lease n).expiry.extractLsb' 16 16, (s.lease n).lastRenewal.extractLsb' 0 16,
     (s.lease n).lastRenewal.extractLsb' 16 16, (s.now (s.lease n).base).extractLsb' 0 16, (s.now (s.lease n).base).extractLsb' 16 16] := by
  rw [← timing_pack, ← leaseState_code_eq, ← baseCode_eq, ← bitWord_eq]
  rfl

/-- R17: with generation 0, or where the handle names the record, the view is answered. -/
theorem queryLeaseOwner_eq {a : Args} (hn : handleLease a[0] = n) (h : handleGeneration a[0] = 0 ∨ s.names a[0] n) :
    queryLeaseOwner m a s = answer s .ok (if a[1] = 0 then s.standingWords n else s.timingWords n) := by
  subst hn
  rw [queryLeaseOwner]
  by_cases hzero : handleGeneration a[0] = 0
  · exact if_pos hzero
  · rw [if_neg hzero]
    exact onLease_of_checks (holder := false) (lapsed := false) (h.resolve_left hzero) (fun h => nomatch h) (fun h => nomatch h) _

theorem event_queryLease (hs : s.canTake m w) (hview : (s.args m w)[1] = 0 ∨ (s.args m w)[1] = 1)
    (hn : handleLease (s.args m w)[0] = n) (h : handleGeneration (s.args m w)[0] = 0 ∨ s.names (s.args m w)[0] n) :
    exec (.queryLease m w) s =
      .next (s.finish m w 0x30 .ok (if (s.args m w)[1] = 0 then s.standingWords n else s.timingWords n)) :=
  event_takeCommand_eq_finish 0x30 hs (.inl rfl)
    (by obtain hview | hview := hview <;> rw [queryLeaseBad, hview] <;> rfl) rfl
    fun x => queryLeaseOwner_eq (s := s.setWindow m w x) hn h

/-! ### FIND_CHANNEL (R20) and QUERY_LINE (R84) -/

theorem event_findChannel (hs : s.canTake m w) (hc : (s.args m w)[0] = natWord c.val) :
    exec (.findChannel m w) s = .next (s.finish m w 0x31 .ok (s.findChannelWords c)) :=
  event_takeCommand_eq_finish 0x31 hs (.inl rfl)
    (by
      have := c.isLt
      rw [hc, natWord, BitVec.toNat_ofNat, decide_eq_false_iff_not]
      omega) rfl
    fun x => by
      rw [hc, channelOfWord_natWord]
      rfl

theorem findChannelWords_of_ungoverned (h : (s.channel c).state = .idle ∨ (s.channel c).state = .draining) :
    s.findChannelWords c = [(s.channel c).state.code, 0, 0, natWord (s.claims.countP fun q => q.channels.getLsbD c.val)] := by
  have hgoverned : (s.channel c).governed = false := by obtain h | h := h <;> simp [Channel.governed, h]
  have hnone : s.governor c = none := by rw [State.governor, hgoverned, if_neg Bool.false_ne_true]
  rw [State.findChannelWords, hnone]
  rfl

theorem findChannelWords_of_governed (h : (s.channel c).state = .active ∨ (s.channel c).state = .parked)
    (hgoverning : (s.channel c).governing = some n) (hholder : (s.lease n).holder = some k) :
    s.findChannelWords c = [(s.channel c).state.code, 0x8000 ||| handleWord n (s.lease n).generation, 0x8000 ||| natWord k.val,
      natWord (s.claims.countP fun q => q.channels.getLsbD c.val)] := by
  have hsome : s.governor c = some (n, s.lease n) := by rw [State.governor, if_pos ((channel_governed_iff _).2 h), hgoverning, Option.map_some]
  rw [State.findChannelWords, hsome]
  simp only [Option.map_some, Option.bind_some, hholder]
  rfl

theorem event_queryLine (hs : s.canTake m w) (hk : (s.args m w)[0] = natWord k.val) :
    exec (.queryLine m w) s = .next (s.finish m w 0x33 .ok (s.queryLineWords k)) :=
  event_takeCommand_eq_finish 0x33 hs (.inl rfl)
    (by
      have := k.isLt
      rw [hk, natWord, BitVec.toNat_ofNat, decide_eq_false_iff_not]
      omega) rfl
    fun x => by
      rw [hk, eightOfWord_natWord]
      rfl

/-- R84: the words of QUERY_LINE after the binding. -/
def State.lineTail (s : State) (k : Fin 8) : List Word :=
  [(s.line k).lastEdge.extractLsb' 0 16, (s.line k).lastEdge.extractLsb' 16 16, natWord (s.claims.countP fun q => q.line == some k),
    bitWord (s.line k).level]

theorem queryLineWords_of_unbound (h : (s.line k).bound = none) :
    s.queryLineWords k = [(s.line k).edge.code, 0, 0, 0] ++ s.lineTail k := by
  simp only [State.queryLineWords, h]
  rfl

theorem queryLineWords_of_bound (h : (s.line k).bound = some n) {j : Fin 8} (hholder : (s.lease n).holder = some j) :
    s.queryLineWords k = [(s.line k).edge.code, 1, handleWord n (s.lease n).generation, natWord j.val] ++ s.lineTail k := by
  simp only [State.queryLineWords, h, Option.bind_some, hholder]
  rfl

/-! ### QUERY_CLAIMS (R65, R66) -/

theorem channelsNamed_getLsbD (l : List Claim) (c : Fin 16) :
    (channelsNamed l).getLsbD c.val = true ↔ ∃ q ∈ l, q.channels.getLsbD c.val = true := by
  have hfold (acc : ChannelSet) : (l.foldl (fun acc q => acc ||| q.channels) acc).getLsbD c.val = true ↔
      acc.getLsbD c.val = true ∨ ∃ q ∈ l, q.channels.getLsbD c.val = true := by
    induction l generalizing acc with
    | nil => simp
    | cons q l ih =>
      rw [List.foldl_cons, ih, BitVec.getLsbD_or, Bool.or_eq_true, or_assoc]
      simp only [List.mem_cons, exists_eq_or_imp]
  rw [channelsNamed, hfold]
  simp

theorem event_queryClaims {p : Fin 12} (hs : s.canTake m w) (hm : m = 0) (hp : (s.args m w)[0] = natWord p.val) :
    exec (.queryClaims m w) s = .next (s.finish m w 0x32 .ok (s.queryClaimsWords p.val)) := by
  have hlt := p.isLt
  have htoNat : (s.args m w)[0].toNat = p.val := by
    rw [hp, natWord, BitVec.toNat_ofNat]
    omega
  refine event_takeCommand_eq_finish 0x32 hs (.inr hm) (by rw [htoNat, decide_eq_false_iff_not]; omega) rfl fun x => ?_
  rw [htoNat]
  rfl

/-! ### LIST_OFFERS (R109) -/

/-- R176: an entry's byte. -/
def State.offerEntry (s : State) (n : Fin 64) : BitVec 8 :=
  0#2 ++ (s.lease n).state.code.setWidth 2 ++ 0#1 ++ BitVec.ofNat 3 (((s.lease n).holder.map (·.val)).getD 0)

theorem offerByte_eq : s.offerByte n = (s.offerEntry n).setWidth 16 := by
  have hholder : natWord (((s.lease n).holder.map (·.val)).getD 0) =
      (BitVec.ofNat 3 (((s.lease n).holder.map (·.val)).getD 0)).setWidth 16 := by
    cases (s.lease n).holder with
    | none => rfl
    | some k => exact natWord_master k
  rw [State.offerByte, State.offerEntry, ← offer_pack, ← leaseState_code_eq, ← hholder]

end Sys2Proof.Machine
end

section
/-! PROOFS. The queries (O25): QUERY_CLAIMS' position words, LIST_OFFERS' words, and the settling theorem. -/

namespace Sys2Proof.Machine

variable {s : State} {m k : Fin 8} {w : Fin 2} {n : Fin 64} {c : Fin 16} {older newer : List Claim} {q : Claim} {reason : BitVec 3}

/-- R66: why a claim waits, by the first reason that holds. -/
theorem waitingReason_eq
    (hbusy : (∃ c : Fin 16, q.channels.getLsbD c.val = true ∧ (s.channel c).state ≠ .idle) → reason = 1)
    (hidle : (∀ c : Fin 16, q.channels.getLsbD c.val = true → (s.channel c).state = .idle) →
      ((∃ c : Fin 16, q.channels.getLsbD c.val = true ∧ ∃ r ∈ older, r.channels.getLsbD c.val = true) → reason = 2)
      ∧ ((∀ c : Fin 16, q.channels.getLsbD c.val = true → ∀ r ∈ older, r.channels.getLsbD c.val = false) →
          ((∀ n : Fin 64, (s.lease n).state ≠ .free) → reason = 3)
          ∧ ((∃ n : Fin 64, (s.lease n).state = .free) →
              reason = if (s.master q.master).quota ≤ (s.master q.master).count then 4 else 0))) :
    s.waitingReason older q = reason.setWidth 16 := by
  rw [State.waitingReason]
  by_cases hall : ∀ c : Fin 16, q.channels.getLsbD c.val = true → (s.channel c).state = .idle
  case neg =>
    have hnot : s.allIdle q.channels = false := Bool.eq_false_iff.2 fun h => hall ((allIdle_iff s _).1 h)
    push Not at hall
    rw [hnot, hbusy hall]
    rfl
  obtain ⟨hreserved, hfree⟩ := hidle hall
  rw [(allIdle_iff s _).2 hall, if_neg (by simp)]
  by_cases hclear : ∀ c : Fin 16, q.channels.getLsbD c.val = true → ∀ r ∈ older, r.channels.getLsbD c.val = false
  case neg =>
    push Not at hclear
    obtain ⟨c, hc, r, hr, hcr⟩ := hclear
    have hcr : r.channels.getLsbD c.val = true := Bool.eq_true_of_not_eq_false hcr
    have hmeet : q.channels &&& channelsNamed older ≠ 0 := fun hzero =>
      absurd ((channelsNamed_getLsbD older c).2 ⟨r, hr, hcr⟩) (Bool.eq_false_iff.1 (and_eq_zero_iff.1 hzero c hc))
    rw [if_pos hmeet, hreserved ⟨c, hc, r, hr, hcr⟩]
    rfl
  obtain ⟨hnone, hsome⟩ := hfree hclear
  have hapart : q.channels &&& channelsNamed older = 0 := and_eq_zero_iff.2 fun c hc => Bool.eq_false_iff.2 fun hnamed => by
    obtain ⟨r, hr, hcr⟩ := (channelsNamed_getLsbD older c).1 hnamed
    exact absurd hcr (Bool.eq_false_iff.1 (hclear c hc r hr))
  rw [if_neg (not_not.2 hapart)]
  by_cases hfull : ∀ n : Fin 64, (s.lease n).state ≠ .free
  · rw [if_pos ((lowestFree_eq_none s).2 hfull), hnone hfull]
    rfl
  · have hexists : ∃ n : Fin 64, (s.lease n).state = .free := by
      push Not at hfull
      exact hfull
    rw [if_neg fun h => hfull ((lowestFree_eq_none s).1 h), hsome hexists]
    split_ifs <;> rfl

theorem queryClaimsWords_of_beyond {position : Nat} (h : s.claims.length ≤ position) :
    s.queryClaimsWords position = [natWord s.claims.length, s.arrivals] := by
  rw [State.queryClaimsWords, List.getElem?_eq_none h]

/-- R65, R176: the words for a position that a claim takes. -/
theorem queryClaimsWords_of_claim (hclaims : s.claims = older ++ q :: newer) (hcount : s.claims.length ≤ 12)
    (hreason : s.waitingReason older q = reason.setWidth 16) :
    s.queryClaimsWords older.length =
      [1#1 ++ 0#4 ++ reason ++ 0#4 ++ BitVec.ofNat 4 s.claims.length, s.arrivals,
       0#2 ++ BitVec.ofBool q.boundaryNotices ++ BitVec.ofBool (q.graceAction == .park) ++ 0#3 ++ BitVec.ofBool (q.base == .b)
         ++ 0#3 ++ BitVec.ofNat 1 q.window.val ++ 0#1 ++ BitVec.ofNat 3 q.master.val,
       q.channels, q.term.extractLsb' 0 16, 0#1 ++ q.urgency ++ 0#4 ++ q.term.extractLsb' 16 8, q.grace, presentEight q.line,
       (q.deadline.getD 0).extractLsb' 0 16, (q.deadline.getD 0).extractLsb' 16 16, q.arrival, bitWord q.deadline.isSome] := by
  have hat : s.claims[older.length]? = some q := by rw [hclaims]; simp
  have htake : s.claims.take older.length = older := by rw [hclaims]; simp
  rw [State.queryClaimsWords, hat]
  dsimp only
  rw [htake, hreason, natWord_count hcount, ← position_pack, ← claimFlags_pack, ← urgency_pack, ← natWord_master, ← natWord_window,
    ← baseCode_eq, ← graceAction_code_eq, ← bitWord_eq]
  rfl

/-- R176: two entries' bytes in one word. -/
theorem offerBytes_eq (low high : Option (Fin 64)) :
    (low.map s.offerByte).getD 0 ||| ((high.map s.offerByte).getD 0 <<< 8) =
      (high.map s.offerEntry).getD 0 ++ (low.map s.offerEntry).getD 0 := by
  have hentry (x : Option (Fin 64)) : (x.map s.offerByte).getD 0 = ((x.map s.offerEntry).getD 0).setWidth 16 := by
    cases x with
    | none => rfl
    | some n => exact offerByte_eq
  rw [hentry, hentry, bytes_pack]

/-- R109, R176: the words of LIST_OFFERS, entry by entry. -/
theorem listOffersWords_eq (l : List (Fin 64)) : s.listOffersWords l =
    [natWord l.length, (l[0]?.map s.handle).getD 0, (l[1]?.map s.handle).getD 0, (l[2]?.map s.handle).getD 0, (l[3]?.map s.handle).getD 0,
     (l[0]?.map fun n => (s.lease n).channels).getD 0, (l[1]?.map fun n => (s.lease n).channels).getD 0,
     (l[2]?.map fun n => (s.lease n).channels).getD 0, (l[3]?.map fun n => (s.lease n).channels).getD 0,
     (l[1]?.map s.offerEntry).getD 0 ++ (l[0]?.map s.offerEntry).getD 0,
     (l[3]?.map s.offerEntry).getD 0 ++ (l[2]?.map s.offerEntry).getD 0] := by
  rw [← offerBytes_eq, ← offerBytes_eq]
  rfl

/-- Settles O25. -/
theorem queriesReportTheTables : Obligations.QueriesReportTheTables := by
  unfold Obligations.QueriesReportTheTables
  intro m w s hs
  refine ⟨fun n hn h => ?_, fun c hc => ⟨fun hstate => ?_, fun hstate n k hgoverning hholder => ?_⟩, fun k hk => ?_,
    fun hm p hp => ⟨fun hbeyond => ?_, fun older newer q hclaims hposition hcount reason hbusy hidle => ?_⟩, fun l hl hlen => ?_⟩
  · intro l absent
    have habsent : presentEight = absent := presentEight_eq rfl fun _ => rfl
    refine ⟨fun hview => ?_, fun hview => ?_⟩
    · rw [event_queryLease hs (.inl hview) hn h, if_pos hview, standingWords_eq, habsent]
    · have hnot : ¬ (s.args m w)[1] = 0 := by
        rw [hview]
        decide
      rw [event_queryLease hs (.inr hview) hn h, if_neg hnot, timingWords_eq]
  · rw [event_findChannel hs hc, findChannelWords_of_ungoverned hstate]
  · rw [event_findChannel hs hc, findChannelWords_of_governed hstate hgoverning hholder]
  · refine ⟨fun hunbound => ?_, fun n j hbound hholder => ?_⟩
    · rw [event_queryLine hs hk, queryLineWords_of_unbound hunbound]
      rfl
    · rw [event_queryLine hs hk, queryLineWords_of_bound hbound hholder]
      rfl
  · rw [event_queryClaims hs hm hp, queryClaimsWords_of_beyond hbeyond]
  · rw [event_queryClaims hs hm hp, ← hposition, queryClaimsWords_of_claim hclaims hcount (waitingReason_eq hbusy hidle)]
    cases q.line <;> cases q.deadline <;> rfl
  · intro at' byte handleAt setAt
    have hat (f : Fin 64 → Word) (i : Nat) : (l[i]?.map f).getD 0 = at' f i := by
      dsimp only [at']
      cases l[i]? <;> rfl
    have hbyte (i : Nat) : (l[i]?.map s.offerEntry).getD 0 = byte i := by
      dsimp only [byte]
      cases l[i]? <;> rfl
    refine (event_takeCommand_eq_finish 0x34 hs (.inl rfl) rfl rfl (code := .ok) (items := s.listOffersWords (s.offerList m))
      fun x => rfl).trans ?_
    rw [hl, listOffersWords_eq]
    simp only [hat, hbyte]
    rfl

end Sys2Proof.Machine
end

section
/-! PROOFS. RESET_TABLE (O24). -/

namespace Sys2Proof.Machine

variable {s : State} {m k : Fin 8} {w : Fin 2} {n : Fin 64} {c : Fin 16}

/-- R21 to R23: the table reset, as one next state. -/
theorem resetTable_eq : s.resetTable =
    { (s.mapWindows fun k v x =>
        if (∃ q ∈ s.claims, q.master = k ∧ q.window = v) ∨ x.drainSet ≠ 0 then
          { x with
            state := .done, code := some .aborted, words := Vector.replicate 12 0, drainSet := 0, released := 0, drained := 0
            completionPending := true }
        else x) with
      leases := tabulate fun n => Lease.blank (s.lease n).generation
      offers := Vector.replicate 8 []
      masters := tabulate fun k => { s.master k with count := 0 }
      expiryA := []
      expiryB := []
      claims := []
      channels := tabulate fun c => (s.channel c).idled
      lines := tabulate fun k => { s.line k with bound := none } } := by
  have hwindow (m : Fin 8) (w : Fin 2) (x : Window) : x.endWait (s.claims.any fun q => q.isIn m w) =
      if (∃ q ∈ s.claims, q.master = m ∧ q.window = w) ∨ x.drainSet ≠ 0 then
        { x with
          state := .done, code := some .aborted, words := Vector.replicate 12 0, drainSet := 0, released := 0, drained := 0
          completionPending := true }
      else x := by
    have hany : (s.claims.any (fun q => q.isIn m w) || x.drainSet != 0) = true ↔
        (∃ q ∈ s.claims, q.master = m ∧ q.window = w) ∨ x.drainSet ≠ 0 := by
      simp [Claim.isIn]
    simp only [Window.endWait, hany, ← resultWords_nil]
    rfl
  rw [State.resetTable]
  simp only [hwindow, rest_eq_blank, enterIdle_eq_idled]

theorem any_isIn_eq_false (h : ∀ q ∈ s.claims, ¬ (q.master = m ∧ q.window = w)) : s.claims.any (fun q => q.isIn m w) = false :=
  List.any_eq_false.2 fun q hq => by simpa [Claim.isIn] using h q hq

/-- R23, R163: the issuing window waits for nothing, so that the reset leaves it as it is and the command completes it. -/
theorem takeCommand_resetTable (hs : s.canTake 0 w) (hdrain : (s.window 0 w).drainSet = 0)
    (hclaims : ∀ q ∈ s.claims, ¬ (q.master = 0 ∧ q.window = w)) :
    resetTableCommand 0 w s = s.resetTable.setWindow 0 w ((s.window 0 w).doneWith 0x3F .ok []) := by
  obtain ⟨-, hfree, henabled⟩ := hs
  have hport : portCheck s 0 (always (s.args 0 w)) (never (s.args 0 w)) = none :=
    (portCheck_eq_none s 0 _ _).2 ⟨henabled, .inr rfl, rfl⟩
  have hany : s.claims.any (fun q => q.isIn 0 w) = false := any_isIn_eq_false hclaims
  have hkept : (s.setWindow 0 w ((s.window 0 w).take 0x3F)).resetTable.window 0 w = (s.window 0 w).take 0x3F := by
    rw [resetTable_window, setWindow_claims, hany, setWindow_window_same, Window.endWait]
    exact if_neg (by simp [Window.take, hdrain])
  rw [resetTableCommand, takeCommand_answered s 0 w 0x3F always never _ hfree hport rfl, State.complete, hkept, resetTable_setWindow,
    take_complete_eq_doneWith]

/-- Settles O24. -/
theorem resetTableClearsTheTable : Obligations.ResetTableClearsTheTable := by
  unfold Obligations.ResetTableClearsTheTable
  intro w s hs hkept hclaims
  have hdrain : (s.window 0 w).drainSet = 0 := by
    by_contra hne
    exact hs.2.1 ((hkept 0 w).2.2.1 hne)
  have hany : s.claims.any (fun q => q.isIn 0 w) = false := any_isIn_eq_false hclaims
  have hwindow : s.resetTable.window 0 w = s.window 0 w := by
    rw [resetTable_window, hany, Window.endWait]
    exact if_neg (by simp [hdrain])
  rw [exec_resetTable, event_of_settled _ _ hs.1, takeCommand_resetTable hs hdrain hclaims, ← hwindow]
  exact congrArg (fun t : State => Host.Outcome.next (t.finish 0 w 0x3F .ok [])) resetTable_eq

end Sys2Proof.Machine
end

section
/-! PROOFS. What the ends of several leases leave together, and the stall event (O41). -/

namespace Sys2Proof.Machine

variable {s t : State} {n x : Fin 64} {c : Fin 16} {S : Finset (Fin 64)} {f : Lease → Lease}

/-! ### Several leases end (R14, R15) -/

/-- What R14 and R15 leave where every lease of `S` ends and its record becomes what `f` makes of it: the leases leave the expiry queues
and the offer lists, their channels are released and their lines are unbound. -/
def State.endAll (s : State) (S : Finset (Fin 64)) (f : Lease → Lease) : State :=
  { s with
    leases := tabulate fun n => if n ∈ S then f (s.lease n) else s.lease n
    channels := tabulate fun c => if ∃ n ∈ S, (s.channel c).governing = some n then (s.channel c).afterRelease else s.channel c
    lines := tabulate fun k => if ∃ n ∈ S, (s.line k).bound = some n then { s.line k with bound := none } else s.line k
    offers := tabulate fun m => (s.offerList m).filter fun n => decide (n ∉ S)
    expiryA := s.expiryA.filter fun n => decide (n ∉ S)
    expiryB := s.expiryB.filter fun n => decide (n ∉ S) }

theorem endAll_lease : (s.endAll S f).lease n = if n ∈ S then f (s.lease n) else s.lease n := by
  simp [State.endAll, State.lease]

theorem endAll_channel : (s.endAll S f).channel c =
    if ∃ n ∈ S, (s.channel c).governing = some n then (s.channel c).afterRelease else s.channel c := by
  simp [State.endAll, State.channel]

theorem endAll_line (k : Fin 8) : (s.endAll S f).line k =
    if ∃ n ∈ S, (s.line k).bound = some n then { s.line k with bound := none } else s.line k := by
  simp [State.endAll, State.line]

theorem endAll_offerList (m : Fin 8) : (s.endAll S f).offerList m = (s.offerList m).filter fun n => decide (n ∉ S) := by
  simp [State.endAll, State.offerList]

theorem endAll_expiryQueue (base : Base) : (s.endAll S f).expiryQueue base = (s.expiryQueue base).filter fun n => decide (n ∉ S) := by
  cases base <;> rfl

theorem endAll_empty : s.endAll ∅ f = s :=
  State.ext_records (fun _ _ => rfl) (fun _ => rfl) (fun _ => by simp [endAll_lease]) (fun _ => by simp [endAll_offerList])
    (fun _ => by simp [endAll_channel]) (fun _ => by simp [endAll_line]) rfl rfl rfl rfl (by simp [State.endAll]) (by simp [State.endAll])
    rfl rfl rfl rfl rfl

/-- A lease and its neighbours name each other (R115, R82, R102, R38). -/
structure State.Attached (s : State) (x : Fin 64) : Prop where
  channels : ∀ c : Fin 16, (s.lease x).channels.getLsbD c.val = true ↔ (s.channel c).governing = some x
  lines : ∀ k : Fin 8, (s.lease x).line = some k ↔ (s.line k).bound = some x
  offers : ∀ m : Fin 8, (s.lease x).offerTarget = some m ↔ x ∈ s.offerList m
  queues : ∀ base : Base, x ∈ s.expiryQueue base → (s.lease x).base = base

theorem attached_of_kept (hchannels : s.channelsKept) (hlines : s.linesKept) (hoffers : s.offersKept) (hexpiry : s.expiryKept) :
    s.Attached x where
  channels c := ⟨hchannels.2.2.1 x c, fun h => (hchannels.2.1 c x h).2.1⟩
  lines k := (hlines.2.1 x k).symm
  offers m := ((hoffers.2 m).2.2 x).symm
  queues
  | .a, h => ((hexpiry.2.2 x).1.1 h).2
  | .b, h => ((hexpiry.2.2 x).2.1 h).2

theorem exists_mem_insert_eq_some (o : Option (Fin 64)) :
    (∃ n ∈ insert x S, o = some n) ↔ o = some x ∨ ∃ n ∈ S, o = some n := Finset.exists_mem_insert ..

theorem not_exists_mem_eq_some {o : Option (Fin 64)} (hx : x ∉ S) (ho : o = some x) : ¬ ∃ n ∈ S, o = some n := by
  rintro ⟨n, hn, rfl⟩
  exact hx (Option.some.inj ho ▸ hn)

theorem filter_ne_filter_not_mem (q : List (Fin 64)) :
    (q.filter fun n => decide (n ∉ S)).filter (· != x) = q.filter fun n => decide (n ∉ insert x S) := by
  rw [List.filter_filter]
  refine List.filter_congr fun n _ => ?_
  rw [Bool.eq_iff_iff]
  simp

theorem filter_not_mem_insert {q : List (Fin 64)} (h : x ∉ q) :
    (q.filter fun n => decide (n ∉ insert x S)) = q.filter fun n => decide (n ∉ S) := by
  refine List.filter_congr fun n hn => ?_
  have hne : n ≠ x := fun heq => h (heq ▸ hn)
  simp [hne]

section Insert
variable (hx : x ∉ S) (hattached : s.Attached x)
include hx hattached

theorem detach_endAll_channel : ((s.endAll S f).detach x).channel c = (s.endAll (insert x S) f).channel c := by
  rw [detach_channel, endAll_lease, if_neg hx, endAll_channel, endAll_channel, release_eq_afterRelease]
  simp only [exists_mem_insert_eq_some, hattached.channels]
  by_cases h : (s.channel c).governing = some x
  · rw [if_pos h, if_neg (not_exists_mem_eq_some hx h), if_pos (.inl h)]
  · simp only [h, if_false, false_or]

theorem detach_endAll_line (k : Fin 8) : ((s.endAll S f).detach x).line k = (s.endAll (insert x S) f).line k := by
  rw [detach_line, endAll_lease, if_neg hx, endAll_line, endAll_line]
  simp only [exists_mem_insert_eq_some, hattached.lines]
  by_cases h : (s.line k).bound = some x
  · rw [if_pos h, if_neg (not_exists_mem_eq_some hx h), if_pos (.inl h)]
  · simp only [h, if_false, false_or]

theorem detach_endAll_offerList (m : Fin 8) : ((s.endAll S f).detach x).offerList m = (s.endAll (insert x S) f).offerList m := by
  rw [detach_offerList, endAll_lease, if_neg hx, endAll_offerList, endAll_offerList]
  split_ifs with h
  · exact filter_ne_filter_not_mem _
  · exact (filter_not_mem_insert fun hmem => h ((hattached.offers m).2 hmem)).symm

theorem detach_endAll_expiryQueue (base : Base) :
    ((s.endAll S f).detach x).expiryQueue base = (s.endAll (insert x S) f).expiryQueue base := by
  rw [detach_expiryQueue, endAll_lease, if_neg hx, endAll_expiryQueue, endAll_expiryQueue]
  split_ifs with h
  · exact filter_ne_filter_not_mem _
  · exact (filter_not_mem_insert fun hmem => h (hattached.queues base hmem).symm).symm

/-- R14, R15: one more lease ends. -/
theorem endAll_insert : ((s.endAll S f).detach x).setLease x (f (s.lease x)) = s.endAll (insert x S) f := by
  have hlease (n : Fin 64) : (((s.endAll S f).detach x).setLease x (f (s.lease x))).lease n = (s.endAll (insert x S) f).lease n := by
    rw [setLease_lease, endAll_lease]
    by_cases hn : n = x
    · rw [if_pos hn, hn, if_pos (Finset.mem_insert_self x S)]
    · simp [hn, endAll_lease]
  have hqueue := detach_endAll_expiryQueue (f := f) hx hattached
  refine State.ext_records (fun _ _ => ?_) (fun _ => ?_) hlease (detach_endAll_offerList hx hattached)
    (fun _ => detach_endAll_channel hx hattached) (detach_endAll_line hx hattached) ?_ ?_ ?_ ?_ (hqueue .a) (hqueue .b) ?_ ?_ ?_ ?_ ?_ <;>
  · rw [detach_eq_letGo]
    rfl

end Insert

/-! ### The stall event (R31, R44 to R46) -/

theorem foldl_lapse_endAll (why : EndReason) (l : List (Fin 64)) (hattached : ∀ n ∈ l, s.Attached n) (hnodup : l.Nodup) (hS : ∀ n ∈ l, n ∉ S) :
    l.foldl (fun t n => t.lapse n why) (s.endAll S fun r => r.afterLapse why) = s.endAll (S ∪ l.toFinset) fun r => r.afterLapse why := by
  induction l generalizing S with
  | nil => simp
  | cons x l ih =>
    obtain ⟨hx, hl⟩ := List.forall_mem_cons.1 hattached
    obtain ⟨hxS, hlS⟩ := List.forall_mem_cons.1 hS
    obtain ⟨hxl, hnodup⟩ := List.nodup_cons.1 hnodup
    have hone : (s.endAll S fun r => r.afterLapse why).lapse x why = s.endAll (insert x S) fun r => r.afterLapse why := by
      rw [lapse_eq_lapsedBy, State.lapsedBy, ← detach_eq_letGo, endAll_lease, if_neg hxS, endAll_insert hxS hx]
    rw [List.foldl_cons, hone, ih hl hnodup]
    · rw [List.toFinset_cons, Finset.insert_union, Finset.union_insert]
    · intro n hn hmem
      obtain rfl | hmem := Finset.mem_insert.1 hmem
      · exact hxl hn
      · exact hlS n hn hmem

/-- R44: every lease of queue B lapses. -/
theorem foldl_lapse_expiryB (why : EndReason) (hattached : ∀ n, s.Attached n) (hnodup : s.expiryB.Nodup) :
    s.expiryB.foldl (fun t n => t.lapse n why) s = s.endAll s.expiryB.toFinset fun r => r.afterLapse why := by
  have hfold := foldl_lapse_endAll (S := ∅) why s.expiryB (fun n _ => hattached n) hnodup (by simp)
  rwa [endAll_empty, Finset.empty_union] at hfold

/-- R31, R44 to R46: what the stall event leaves before the scan. -/
def State.stalledB (s : State) : State :=
  { (s.mapWindows fun m w x =>
      if ∃ q ∈ s.claims, q.base = .b ∧ q.master = m ∧ q.window = w then
        { x with
          state := .done, code := some .baseUnavailable, words := resultWords [], drainSet := 0, released := 0, drained := 0
          completionPending := true }
      else x) with
    baseB := { s.baseB with state := .stalled, edgeCount := 0, stallWatch := 0 }
    deviceNotice := .baseBStalled
    expiryB := []
    leases := tabulate fun n => if n ∈ s.expiryB then (s.lease n).afterLapse .baseStalled else s.lease n
    channels := tabulate fun c =>
      if ∃ n ∈ s.expiryB, (s.channel c).governing = some n then (s.channel c).afterRelease else s.channel c
    lines := tabulate fun k =>
      if ∃ n ∈ s.expiryB, (s.line k).bound = some n then { s.line k with bound := none } else s.line k
    offers := tabulate fun m => (s.offerList m).filter fun n => decide (n ∉ s.expiryB)
    claims := s.claims.filter fun q => q.base != .b }

theorem takeStall_eq (hattached : ∀ n, s.Attached n) (hexpiry : s.expiryKept) (hdue : s.stallDue = true) :
    s.takeStall = closeEvent s s.stalledB := by
  have hexpiryA : (s.expiryA.filter fun n => decide (n ∉ s.expiryB)) = s.expiryA := List.filter_eq_self.2 fun n hn => by
    have hA := ((hexpiry.2.2 n).1.1 hn).2
    exact decide_eq_true fun hB => nomatch hA.symm.trans ((hexpiry.2.2 n).2.1 hB).2
  have hexpiryB : (s.expiryB.filter fun n => decide (n ∉ s.expiryB)) = [] := List.filter_eq_nil_iff.2 fun n hn => by simp [hn]
  rw [State.takeStall, if_pos hdue]
  dsimp only
  rw [foldl_lapse_baseB, foldl_lapse_expiryB _ hattached hexpiry.2.1, endClaims_eq]
  simp only [State.endAll, List.mem_toFinset, hexpiryA, hexpiryB, beq_iff_eq]
  rfl

theorem stallDue_iff : s.stallDue = true ↔ s.watchRuns = true ∧ s.baseB.stallLimit.toNat ≤ s.baseB.stallWatch.toNat := by
  rw [State.stallDue, Bool.and_eq_true, decide_eq_true_eq]

/-- R54: after a stall event a scan follows where a channel reached IDLE or a claim left. -/
theorem scanTriggered_stalledB : scanTriggered s s.stalledB = true ↔
    (∃ c : Fin 16, (s.channel c).state ≠ .idle ∧ (s.stalledB.channel c).state = .idle) ∨ ∃ q ∈ s.claims, q.base = .b := by
  have hlease (n : Fin 64) : s.stalledB.lease n = if n ∈ s.expiryB then (s.lease n).afterLapse .baseStalled else s.lease n := by
    simp [State.stalledB, State.lease]
  have hfreed : ¬ ∃ n, (s.lease n).state ≠ .free ∧ (s.stalledB.lease n).state = .free := by
    rintro ⟨n, hs, ht⟩
    rw [hlease] at ht
    split_ifs at ht
    · exact nomatch ht
    · exact hs ht
  have hmaster (m : Fin 8) : s.stalledB.master m = s.master m := rfl
  have hleft : s.stalledB.claims.length < s.claims.length ↔ ∃ q ∈ s.claims, q.base = .b := by
    have hfilter : s.stalledB.claims = s.claims.filter fun q => q.base != .b := rfl
    rw [hfilter, List.length_filter_lt_length_iff_exists]
    simp
  rw [scanTriggered_iff, hleft]
  simp [hfreed, hmaster]

/-- Settles O41. -/
theorem stallEndsTheWorkOnBaseB : Obligations.StallEndsTheWorkOnBaseB := by
  unfold Obligations.StallEndsTheWorkOnBaseB
  intro s hreset ha hb
  rw [exec_stallEvent, tickEvent_of_not_due _ _ hreset ha hb]
  refine ⟨fun hnot => ?_, fun hruns hlimit hkept => ?_⟩
  · rw [takeStall_of_not_due s (Bool.eq_false_iff.2 fun h => hnot (stallDue_iff.1 h))]
  · obtain ⟨-, -, -, hoffers, hchannels, -, hexpiry, hlines, -⟩ := hkept
    have hattached (n : Fin 64) : s.Attached n := attached_of_kept hchannels hlines hoffers hexpiry
    rw [takeStall_eq hattached hexpiry (stallDue_iff.2 ⟨hruns, hlimit⟩)]
    exact congrArg _ (closeEvent_eq_ite scanTriggered_stalledB)

end Sys2Proof.Machine
end

section
/-! PROOFS. The leases of one master freed one after another, for DISABLE_MASTER (O35). -/

namespace Sys2Proof.Machine

variable {s t : State} {n x : Fin 64} {k : Fin 8} {w : Fin 2} {S : Finset (Fin 64)}

/-! ### The leases of a master are freed (R15, R96) -/

/-- A lease that names no neighbour and stands in no queue leaves nothing. -/
theorem detach_of_bare (hchannels : (t.lease x).channels = 0) (hline : (t.lease x).line = none) (htarget : (t.lease x).offerTarget = none)
    (hqueue : ∀ base, x ∉ t.expiryQueue base) : t.detach x = t := by
  have hexpiry (base : Base) : (t.detach x).expiryQueue base = t.expiryQueue base := by
    rw [detach_expiryQueue]
    split_ifs
    · exact List.filter_eq_self.2 fun n hn => bne_iff_ne.2 fun heq => hqueue base (heq ▸ hn)
    · rfl
  refine State.ext_records (fun _ _ => ?_) (fun _ => ?_) (fun _ => ?_) (fun m => ?_) (fun c => ?_) (fun j => ?_) ?_ ?_ ?_ ?_
    (hexpiry .a) (hexpiry .b) ?_ ?_ ?_ ?_ ?_
  case refine_4 => rw [detach_offerList, htarget, if_neg (by simp)]
  case refine_5 => rw [detach_channel, hchannels, if_neg (by simp)]
  case refine_6 => rw [detach_line, hline, if_neg (by simp)]
  all_goals
    rw [detach_eq_letGo]
    rfl

/-- R15: the freeing step, where a lapsed lease has no neighbours left. -/
theorem freeLease_eq_detach (hholder : (t.lease x).holder = some k) (hlapsed : (t.lease x).live = false → t.detach x = t) :
    t.freeLease x = ((t.detach x).setLease x (Lease.blank (t.lease x).generation)).recount k fun count => count - 1 := by
  have hdetach : (if (t.lease x).live then t.detach x else t) = t.detach x := by
    split_ifs with hlive
    · rfl
    · exact (hlapsed (Bool.eq_false_iff.2 hlive)).symm
  rw [State.freeLease, hdetach, hholder]
  rfl

theorem detach_recount (g : Nat → Nat) : (s.recount k g).detach x = (s.detach x).recount k g := by
  rw [detach_eq_letGo, detach_eq_letGo]
  rfl

theorem recount_recount (g h : Nat → Nat) : (s.recount k g).recount k h = s.recount k fun count => h (g count) := by
  simp [State.recount]

/-- R15: what the freeing of the leases of `S`, held by master `k`, leaves; `freed` is how far its count fell. -/
def State.freedAll (s : State) (S : Finset (Fin 64)) (k : Fin 8) (freed : Nat) : State :=
  (s.endAll S fun l => Lease.blank l.generation).recount k fun count => count - freed

theorem freedAll_lease {freed : Nat} : (s.freedAll S k freed).lease n = if n ∈ S then Lease.blank (s.lease n).generation else s.lease n := by
  rw [State.freedAll, State.recount, setMaster_lease, endAll_lease]

theorem freedAll_expiryQueue {freed : Nat} (base : Base) :
    (s.freedAll S k freed).expiryQueue base = (s.expiryQueue base).filter fun n => decide (n ∉ S) := by
  rw [State.freedAll, State.recount, setMaster_expiryQueue, endAll_expiryQueue]

theorem freedAll_empty : s.freedAll ∅ k 0 = s := by
  rw [State.freedAll, endAll_empty]
  exact State.ext_records (fun _ _ => rfl) (fun m => by
    rw [State.recount, setMaster_master]
    split_ifs with h
    · rw [h]
      rfl
    · rfl) (fun _ => rfl) (fun _ => rfl) (fun _ => rfl) (fun _ => rfl) rfl rfl rfl rfl rfl rfl rfl rfl rfl rfl rfl

/-- What the freeing of a lease rests on: its neighbours are those it names, and a lapsed lease has none. -/
structure State.Separable (s : State) (x : Fin 64) : Prop where
  attached : s.Attached x
  bare : (s.lease x).live = false → (s.lease x).channels = 0 ∧ (s.lease x).line = none ∧ (s.lease x).offerTarget = none
    ∧ ∀ base, x ∉ s.expiryQueue base

/-- R15: one more lease of the master is freed. -/
theorem freeLease_freedAll (hx : x ∉ S) (hsep : s.Separable x) (hholder : (s.lease x).holder = some k) {freed : Nat} :
    (s.freedAll S k freed).freeLease x = s.freedAll (insert x S) k (freed + 1) := by
  have hlease : (s.freedAll S k freed).lease x = s.lease x := by rw [freedAll_lease, if_neg hx]
  have hlapsed : ((s.freedAll S k freed).lease x).live = false → (s.freedAll S k freed).detach x = s.freedAll S k freed := by
    rw [hlease]
    intro hdead
    obtain ⟨hchannels, hline, htarget, hqueue⟩ := hsep.bare hdead
    refine detach_of_bare (by rw [hlease, hchannels]) (by rw [hlease, hline]) (by rw [hlease, htarget]) fun base hmem => hqueue base ?_
    rw [freedAll_expiryQueue] at hmem
    exact List.mem_of_mem_filter hmem
  rw [freeLease_eq_detach (hlease ▸ hholder) hlapsed, hlease, State.freedAll, State.freedAll, detach_recount, ← endAll_insert hx hsep.attached]
  exact recount_recount (s := ((s.endAll S fun l => Lease.blank l.generation).detach x).setLease x (Lease.blank (s.lease x).generation))
    (fun count => count - freed) fun count => count - 1

theorem foldl_freeLease_freedAll (l : List (Fin 64)) (hsep : ∀ n, (s.lease n).holder = some k → s.Separable n) (hnodup : l.Nodup)
    (hS : ∀ n ∈ l, n ∉ S) (freed : Nat) : ∃ total : Nat,
    l.foldl (fun u n => if (u.lease n).holder = some k then u.freeLease n else u) (s.freedAll S k freed) =
      s.freedAll (S ∪ l.toFinset.filter fun n => (s.lease n).holder = some k) k total := by
  induction l generalizing S freed with
  | nil => exact ⟨freed, by simp⟩
  | cons x l ih =>
    obtain ⟨hxS, hlS⟩ := List.forall_mem_cons.1 hS
    obtain ⟨hxl, hnodup⟩ := List.nodup_cons.1 hnodup
    rw [List.foldl_cons, freedAll_lease, if_neg hxS, List.toFinset_cons, Finset.filter_insert]
    split_ifs with hholder
    · obtain ⟨total, htotal⟩ := ih (S := insert x S) hnodup (fun n hn hmem => by
        obtain rfl | hmem := Finset.mem_insert.1 hmem
        · exact hxl hn
        · exact hlS n hn hmem) (freed + 1)
      refine ⟨total, ?_⟩
      rw [freeLease_freedAll hxS (hsep x hholder) hholder, htotal, Finset.insert_union, Finset.union_insert]
    · exact ih hnodup hlS freed

/-- The leases of a master. -/
def State.leasesOf (s : State) (k : Fin 8) : Finset (Fin 64) := Finset.univ.filter fun n => (s.lease n).holder = some k

theorem mem_leasesOf : n ∈ s.leasesOf k ↔ (s.lease n).holder = some k := by simp [State.leasesOf]

/-- R96: every lease of master `k` is freed. -/
theorem freeLeasesOf_eq (hsep : ∀ n, (s.lease n).holder = some k → s.Separable n) :
    ∃ total : Nat, s.freeLeasesOf k = s.freedAll (s.leasesOf k) k total := by
  obtain ⟨total, htotal⟩ := foldl_freeLease_freedAll (S := ∅) (List.finRange 64) hsep (List.nodup_finRange 64) (by simp) 0
  rw [freedAll_empty, Finset.empty_union] at htotal
  have hall : (List.finRange 64).toFinset = Finset.univ := by
    ext n
    simp
  rw [hall] at htotal
  exact ⟨total, htotal⟩

theorem separable_of_kept (hchannels : s.channelsKept) (hlines : s.linesKept) (hoffers : s.offersKept) (hexpiry : s.expiryKept)
    (hrecords : s.recordsKept) (hcounts : s.countsKept) (hholder : (s.lease x).holder = some k) : s.Separable x where
  attached := attached_of_kept hchannels hlines hoffers hexpiry
  bare hdead := by
    have hlapsed : (s.lease x).state = .lapsed := by
      have hstanding : (s.lease x).state ≠ .free := fun hfree => nomatch (hcounts.1 x hfree).symm.trans hholder
      cases hstate : (s.lease x).state with
      | free => exact absurd hstate hstanding
      | held => simp [Lease.live, hstate] at hdead
      | grace => simp [Lease.live, hstate] at hdead
      | lapsed => rfl
    obtain ⟨hset, -, hline, htarget⟩ := (hrecords x).2.2.2 hlapsed
    refine ⟨hset, hline, htarget, fun base hmem => ?_⟩
    have hlive : (s.lease x).live = true := by
      cases base with
      | a => exact ((hexpiry.2.2 x).1.1 hmem).1
      | b => exact ((hexpiry.2.2 x).2.1 hmem).1
    exact Bool.false_ne_true (hdead.symm.trans hlive)

end Sys2Proof.Machine
end

section
/-! PROOFS. DISABLE_MASTER (O35): the master is cut off, and when a scan follows. -/

namespace Sys2Proof.Machine

variable {s t : State} {n x : Fin 64} {k m : Fin 8} {w v : Fin 2} {c : Fin 16} {S : Finset (Fin 64)} {freed : Nat}

/-! ### What the freeing of a master's leases leaves -/

theorem freedAll_window : (s.freedAll S k freed).window m v = s.window m v := rfl

theorem freedAll_channel : (s.freedAll S k freed).channel c =
    if ∃ n ∈ S, (s.channel c).governing = some n then (s.channel c).afterRelease else s.channel c := by
  rw [State.freedAll, State.recount, setMaster_channel, endAll_channel]

theorem freedAll_line (j : Fin 8) : (s.freedAll S k freed).line j =
    if ∃ n ∈ S, (s.line j).bound = some n then { s.line j with bound := none } else s.line j := by
  rw [State.freedAll, State.recount, setMaster_line, endAll_line]

theorem freedAll_offerList : (s.freedAll S k freed).offerList m = (s.offerList m).filter fun n => decide (n ∉ S) := by
  rw [State.freedAll, State.recount, setMaster_offerList, endAll_offerList]

theorem freedAll_master : (s.freedAll S k freed).master m =
    if m = k then { s.master k with count := (s.master k).count - freed } else s.master m := by
  rw [State.freedAll, State.recount, setMaster_master]
  rfl

/-! ### The disable (R170, R96, R97, R63) -/

/-- R170, R96, R97, R63: master `k` is cut off; the issuing window is not done yet. -/
def State.cutOff (s : State) (k : Fin 8) : State :=
  { (s.mapWindows fun j v x => if j = k then State.reset.window j v else x) with
    leases := tabulate fun n =>
      if (s.lease n).holder = some k then Lease.blank (s.lease n).generation
      else if (s.lease n).offerTarget = some k then { s.lease n with offerTarget := none }
      else s.lease n
    channels := tabulate fun c =>
      if ∃ n : Fin 64, (s.channel c).governing = some n ∧ (s.lease n).holder = some k then (s.channel c).afterRelease
      else s.channel c
    lines := tabulate fun j =>
      if ∃ n : Fin 64, (s.line j).bound = some n ∧ (s.lease n).holder = some k then { s.line j with bound := none }
      else s.line j
    offers := tabulate fun j => if j = k then [] else (s.offerList j).filter fun n => (s.lease n).holder != some k
    expiryA := s.expiryA.filter fun n => (s.lease n).holder != some k
    expiryB := s.expiryB.filter fun n => (s.lease n).holder != some k
    claims := s.claims.filter fun q => q.master != k
    masters := tabulate fun j => if j = k then { s.master k with enabled := false, count := 0 } else s.master j }

theorem cutOff_window : (s.cutOff k).window m v = if m = k then State.reset.window m v else s.window m v :=
  mapWindows_window s (fun j v x => if j = k then State.reset.window j v else x) m v

theorem cutOff_master : (s.cutOff k).master m = if m = k then { s.master k with enabled := false, count := 0 } else s.master m := by
  simp [State.cutOff, State.master]

theorem cutOff_lease : (s.cutOff k).lease n =
    if (s.lease n).holder = some k then Lease.blank (s.lease n).generation
    else if (s.lease n).offerTarget = some k then { s.lease n with offerTarget := none }
    else s.lease n := by
  simp [State.cutOff, State.lease]

theorem cutOff_channel : (s.cutOff k).channel c =
    if ∃ n : Fin 64, (s.channel c).governing = some n ∧ (s.lease n).holder = some k then (s.channel c).afterRelease else s.channel c := by
  simp [State.cutOff, State.channel]

theorem cutOff_line (j : Fin 8) : (s.cutOff k).line j =
    if ∃ n : Fin 64, (s.line j).bound = some n ∧ (s.lease n).holder = some k then { s.line j with bound := none } else s.line j := by
  simp [State.cutOff, State.line]

theorem cutOff_offerList : (s.cutOff k).offerList m =
    if m = k then [] else (s.offerList m).filter fun n => (s.lease n).holder != some k := by
  simp [State.cutOff, State.offerList]

theorem exists_leasesOf_eq_some (o : Option (Fin 64)) :
    (∃ n ∈ s.leasesOf k, o = some n) ↔ ∃ n : Fin 64, o = some n ∧ (s.lease n).holder = some k := by
  simp only [mem_leasesOf, and_comm]

theorem filter_not_leasesOf (q : List (Fin 64)) :
    (q.filter fun n => decide (n ∉ s.leasesOf k)) = q.filter fun n => (s.lease n).holder != some k :=
  List.filter_congr fun n _ => by simp [mem_leasesOf, bne, Bool.beq_eq_decide_eq]

/-- R97: the leases and the offer lists once the offers to the master are withdrawn. -/
theorem withdrawOffersTo_freedAll_lease (htarget : ∀ n, (s.lease n).offerTarget = some k ↔ n ∈ s.offerList k) :
    ((s.freedAll (s.leasesOf k) k freed).withdrawOffersTo k).lease n = (s.cutOff k).lease n := by
  rw [withdrawOffersTo_lease, freedAll_offerList, filter_not_leasesOf, freedAll_lease, cutOff_lease]
  simp only [mem_leasesOf, List.mem_filter, htarget]
  by_cases hholder : (s.lease n).holder = some k
  · simp [hholder]
  · simp [hholder, bne_iff_ne]

theorem withdrawOffersTo_freedAll_offerList :
    ((s.freedAll (s.leasesOf k) k freed).withdrawOffersTo k).offerList m = (s.cutOff k).offerList m := by
  rw [withdrawOffersTo_offerList, freedAll_offerList, filter_not_leasesOf, cutOff_offerList]

theorem withdrawOffersTo_keeps_rest : (s.withdrawOffersTo k).arrivals = s.arrivals ∧ (s.withdrawOffersTo k).resetAsserted = s.resetAsserted
    ∧ (s.withdrawOffersTo k).freeCount = s.freeCount ∧ (s.withdrawOffersTo k).pending = s.pending := by
  rw [State.withdrawOffersTo, (foldl_dropTarget (s.offerList k) s).2]
  exact ⟨rfl, rfl, rfl, rfl⟩

/-- R170, R96, R97, R63: the disable, as one next state. -/
theorem disableMaster_eq (hsep : ∀ n, (s.lease n).holder = some k → s.Separable n)
    (htarget : ∀ n, (s.lease n).offerTarget = some k ↔ n ∈ s.offerList k) : s.disableMaster k = s.cutOff k := by
  obtain ⟨total, htotal⟩ := freeLeasesOf_eq hsep
  rw [State.disableMaster, htotal]
  obtain ⟨hwindow, hmaster, hchannel, hline, hclaims, hbaseA, hbaseB, hnotice, hfreeze, -, hqueue⟩ :=
    withdrawOffersTo_keeps (s.freedAll (s.leasesOf k) k total) k
  have hexpiry (base : Base) : ((s.freedAll (s.leasesOf k) k total).withdrawOffersTo k).expiryQueue base = (s.cutOff k).expiryQueue base := by
    rw [hqueue, freedAll_expiryQueue, filter_not_leasesOf]
    cases base <;> rfl
  have hleft : (((s.freedAll (s.leasesOf k) k total).withdrawOffersTo k).removeClaims fun q => q.master == k).claims = (s.cutOff k).claims :=
    congrArg (List.filter fun q : Claim => !(q.master == k)) hclaims
  obtain ⟨harrivals, hreset, hfree, hpending⟩ := withdrawOffersTo_keeps_rest (s := s.freedAll (s.leasesOf k) k total) (k := k)
  have hlease (n : Fin 64) := withdrawOffersTo_freedAll_lease (n := n) (freed := total) htarget
  have hoffers (m : Fin 8) := withdrawOffersTo_freedAll_offerList (s := s) (k := k) (m := m) (freed := total)
  generalize (s.freedAll (s.leasesOf k) k total).withdrawOffersTo k = u at *
  refine State.ext_records (fun m v => ?_) (fun m => ?_) hlease hoffers (fun c => ?_) (fun j => ?_) hleft harrivals hbaseA hbaseB
    (hexpiry .a) (hexpiry .b) hnotice hfreeze hreset hfree hpending
  · rw [setMaster_window, resetWindowsOf_window, cutOff_window, reset_window]
    exact ite_congr rfl (fun _ => rfl) fun _ => hwindow m v
  · rw [setMaster_master, cutOff_master]
    refine ite_congr rfl (fun _ => ?_) fun hm => ?_
    · exact (congrArg Master.disabled ((hmaster k).trans freedAll_master)).trans (by rw [if_pos rfl]; rfl)
    · exact (hmaster m).trans (freedAll_master.trans (if_neg hm))
  · refine (hchannel c).trans ?_
    rw [freedAll_channel, cutOff_channel]
    simp only [exists_leasesOf_eq_some]
  · refine (hline j).trans ?_
    rw [freedAll_line, cutOff_line]
    simp only [exists_leasesOf_eq_some]

/-! ### The command -/

theorem cutOff_setWindow (hm : m ≠ k) (x : Window) : (s.setWindow m w x).cutOff k = (s.cutOff k).setWindow m w x := by
  refine State.ext_records (fun j v => ?_) (fun _ => rfl) (fun _ => rfl) (fun _ => rfl) (fun _ => rfl) (fun _ => rfl) rfl rfl rfl rfl rfl rfl
    rfl rfl rfl rfl rfl
  rw [cutOff_window, setWindow_window, setWindow_window, cutOff_window]
  by_cases hj : j = k
  · rw [if_pos hj, if_pos hj, if_neg fun h => hm (h.1.symm.trans hj)]
  · rw [if_neg hj, if_neg hj]

/-- R54: a scan follows where a record was freed or a claim left. -/
theorem scanTriggered_cutOff (hcounts : s.countsKept) (y : Window) : scanTriggered s ((s.cutOff k).setWindow m w y) = true ↔
    (∃ n : Fin 64, (s.lease n).holder = some k) ∨ ∃ q ∈ s.claims, q.master = k := by
  have hstanding {n : Fin 64} (h : (s.lease n).holder = some k) : (s.lease n).state ≠ .free := fun hfree =>
    nomatch (hcounts.1 n hfree).symm.trans h
  have hleft : ((s.cutOff k).setWindow m w y).claims.length < s.claims.length ↔ ∃ q ∈ s.claims, q.master = k := by
    have hfilter : ((s.cutOff k).setWindow m w y).claims = s.claims.filter fun q => q.master != k := rfl
    rw [hfilter, List.length_filter_lt_length_iff_exists]
    simp
  rw [scanTriggered_iff, hleft]
  constructor
  · rintro (⟨c, hc, hidle⟩ | ⟨n, hn, hfree⟩ | ⟨j, hj⟩ | hq)
    · rw [setWindow_channel, cutOff_channel] at hidle
      split_ifs at hidle with hgoverned
      · obtain ⟨n, -, hholder⟩ := hgoverned
        exact .inl ⟨n, hholder⟩
      · exact absurd hidle hc
    · rw [setWindow_lease, cutOff_lease] at hfree
      split_ifs at hfree with hholder
      · exact .inl ⟨n, hholder⟩
      · exact absurd hfree hn
      · exact absurd hfree hn
    · refine .inl ?_
      rw [setWindow_master, cutOff_master] at hj
      split_ifs at hj with hjk
      · subst hjk
        have hcount : 0 < (s.master j).count := by simpa using hj
        rw [hcounts.2 j, List.countP_pos_iff] at hcount
        obtain ⟨n, -, hn⟩ := hcount
        rw [Bool.and_eq_true, beq_iff_eq] at hn
        exact ⟨n, hn.2⟩
      · simp at hj
    · exact .inr hq
  · rintro (⟨n, hholder⟩ | hq)
    · refine .inr (.inl ⟨n, hstanding hholder, ?_⟩)
      rw [setWindow_lease, cutOff_lease, if_pos hholder]
      rfl
    · exact .inr (.inr (.inr hq))

theorem disableBad_eq_false {a : Args} (hk : k ≠ 0) (h : a[0] = natWord k.val) : disableMasterBad a = false := by
  have hall : ∀ k : Fin 8, k ≠ 0 → (natWord k.val == 0 || decide (7 < (natWord k.val).toNat)) = false := by decide
  rw [disableMasterBad, h]
  exact hall k hk

/-- R9, R170: the numbers that DISABLE_MASTER reports. -/
theorem disableWords_eq (hcounts : s.countsKept) : s.disableWords k =
    [natWord (s.master k).count, natWord (s.claims.countP fun q => q.master == k), natWord (s.offerList k).length] := by
  have hcount : ((List.finRange 64).countP fun n => (s.lease n).holder == some k) = (s.master k).count := by
    rw [hcounts.2 k]
    refine List.countP_congr fun n _ => ?_
    have hstanding (h : (s.lease n).holder = some k) : (s.lease n).state ≠ .free := fun hfree => nomatch (hcounts.1 n hfree).symm.trans h
    simpa using hstanding
  rw [State.disableWords, hcount]

/-- Settles O35. -/
theorem disableMasterCutsTheMasterOff : Obligations.DisableMasterCutsTheMasterOff := by
  unfold Obligations.DisableMasterCutsTheMasterOff
  intro w k s hs hk hword
  have hport := disableBad_eq_false hk hword
  refine ⟨fun hdisabled => ?_, fun henabled hkept => ?_⟩
  · exact event_closed_eq_finish_self hs (.inr rfl) hport fun x => by
      rw [disableMasterOwner, hword, eightOfWord_natWord]
      exact if_neg (by simp [hdisabled])
  · intro words t
    obtain ⟨-, -, -, hoffers, hchannels, -, hexpiry, hlines, hcounts, -, hrecords, -⟩ := hkept
    have hdisable (x : Window) : (s.setWindow 0 w x).disableMaster k = (s.cutOff k).setWindow 0 w x := by
      rw [disableMaster_eq, cutOff_setWindow hk.symm]
      · intro n hholder
        exact separable_of_kept (s := s.setWindow 0 w x) hchannels hlines hoffers hexpiry hrecords hcounts hholder
      · exact fun n => ((hoffers.2 k).2.2 n).symm
    have hfinish : (s.cutOff k).finish 0 w 0x71 .ok words = t := by
      refine State.ext_records (fun j v => ?_) (fun _ => rfl) (fun _ => rfl) (fun _ => rfl) (fun _ => rfl) (fun _ => rfl) rfl rfl rfl rfl
        rfl rfl rfl rfl rfl rfl rfl
      have hright : t.window j v =
          if j = k then State.reset.window j v else if j = 0 ∧ v = w then (s.window j v).doneWith 0x71 .ok words else s.window j v :=
        mapWindows_window s (fun j v x =>
          if j = k then State.reset.window j v else if j = 0 ∧ v = w then x.doneWith 0x71 .ok words else x) j v
      rw [State.finish, setWindow_window, cutOff_window, cutOff_window, if_neg hk.symm, hright]
      split_ifs with hissuing hj hj
      · exact absurd (hj.symm.trans hissuing.1) hk
      · rw [hissuing.1, hissuing.2]
      · rfl
      · rfl
    refine (event_closed_eq_finish (word := 0x71) hs (.inr rfl) hport (t := s.cutOff k) (code := .ok) (items := words)
      (by rw [cutOff_window, if_neg hk.symm]) fun x => ?_).trans
      (congrArg _ ((closeEvent_eq_ite (scanTriggered_cutOff hcounts _)).trans (by rw [← hfinish]; rfl)))
    rw [disableMasterOwner, hword, eightOfWord_natWord, hdisable]
    have hwords : (s.setWindow 0 w x).disableWords k = words := disableWords_eq (s := s) hcounts
    exact (if_pos henabled).trans (by rw [hwords])

end Sys2Proof.Machine
end
